-- ==== Sys2Proof/Word.lean ====
section
/-! DEFINITION. The word types of the hardware (spec 00_scope.md rule R7: `ADDR_W`, `DATA_W`). -/

namespace Sys2Proof

/-- A data transfer: `DATA_W` = 8 bits (R7). -/
abbrev Byte := BitVec 8

/-- A CPU address, or a 16-bit word value: `ADDR_W` = 16 bits (R7, R65). -/
abbrev Addr := BitVec 16

/-- The canonical transaction word `T` (R91). -/
abbrev TWord := BitVec 28

/-- An expansion base or bank offset: 21 bits (R21). -/
abbrev BankWord := BitVec 21

end Sys2Proof
end

