-- ==== Sys2Proof/Config.lean ====
section
/-! DEFINITION. What an implementation fixes: the names of variants, regions and slots, the constants of 00_scope.md
rule R7, the straps of rule R8, and the free values (93_implementation_defined.md U1 to U4). -/

namespace Sys2Proof

/-- The four hardware variants (R2). -/
inductive Model where
  /-- variant A, model id 1, "the base model" -/
  | a
  /-- variant B, model id 3 -/
  | b
  /-- variant C, model id 4 -/
  | c
  /-- variant D, model id 5 -/
  | d
deriving DecidableEq, Repr

/-- The regions MEMDEC can select (R62). -/
inductive Region where
  | none
  | ram
  | rom
  | video
  | kbd
  | printer
  | intlatch
  | fdsel
  | cass
  | fdc
deriving DecidableEq, Repr

/-- The `NDRIVES` = 4 drive slots (R7, R45). -/
inductive SlotId where
  | s0
  | s1
  | s2
  | s3
deriving DecidableEq, Repr

/-- The four storages whose bytes may never have been written (R60; U1, U4). -/
inductive Storage where
  | ram
  | rom
  | video
  /-- the image in a drive slot -/
  | image (d : SlotId)
deriving DecidableEq, Repr

/-- The kinds of media operation `IOFAULT` speaks of (R329). -/
inductive MediaOp where
  | read
  | write
  | flush
deriving DecidableEq, Repr

/-- How a medium can be opened (R320). -/
inductive Access where
  /-- the read-write open succeeds -/
  | rw
  /-- only the read-only fallback succeeds -/
  | ro
deriving DecidableEq, Repr

/-- The direction BLOCK steps its pointers in: +1 or -1 (R100, R228). -/
inductive Direction where
  | up
  | down
deriving DecidableEq, Repr

/-- The straps of R8 less `MODEL` and the media, which operations change. -/
structure Straps where
  /-- `huffman_ram`: a "Huffman-style" expansion is fitted -/
  huffmanRam : Bool
  /-- `supermem`: a "Supermem-style" expansion is fitted -/
  supermem : Bool
  /-- `selector_enabled`: the memory selector card is fitted -/
  selectorEnabled : Bool
  /-- `SECTORS_PER_TRACK`, legal in 1..255 -/
  sectorsPerTrack : Nat
deriving DecidableEq, Repr

/-- `SENTINEL`, the byte an unmapped address reads as (R7, R64). -/
abbrev Config.sentinel : Byte := 0xFF#8

/-- `RAM_SIZE` (R7). -/
abbrev Config.ramSize : Nat := 0x210000

/-- `ROM_MAX` (R7). -/
abbrev Config.romMax : Nat := 0x3800

/-- `VIDEO_SIZE` (R7). -/
abbrev Config.videoSize : Nat := 0x800

/-- `SECTOR_SIZE` (R7). -/
abbrev Config.sectorSize : Nat := 256

/-- `HEADER_SIZE` (R7). -/
abbrev Config.headerSize : Nat := 256

/-- `DIRCYL_OFF` (R7). -/
abbrev Config.dircylOff : Nat := 31

/-- `MAX_HEADS` (R7). -/
abbrev Config.maxHeads : Nat := 8

/-- `DEFAULT_CYLS` (R7). -/
abbrev Config.defaultCyls : Nat := 256

/-- `FORMAT_SIZE_CODE` (R7). -/
abbrev Config.formatSizeCode : Byte := 0x0F#8

/-- The variant of `State.reset`. DESIGN CHOICE (log 4), unsafe for claims about `State.reset` alone: the spec leaves
the variant to whoever builds the hardware, and "the base model" is taken. -/
def Config.resetModel : Model := .a

/-- The straps of `State.reset`: nothing fitted (DESIGN CHOICE, log 4) and the default `SECTORS_PER_TRACK` = 32 (R8). -/
def Config.resetStraps : Straps :=
  { huffmanRam := false, supermem := false, selectorEnabled := false, sectorsPerTrack := 32 }

/-- FREE VALUE (log 5; U1, U4, U13): what a byte that nothing has written holds, by storage and offset. -/
opaque Config.unwrittenByte : Storage → Nat → Byte

/-- FREE VALUE (log 6; U2): the byte an external peripheral answers, by region, offset and draw number. -/
opaque Config.periphByte : Region → Nat → Nat → Byte

/-- FREE VALUE (log 7; U3): the byte a data-port fetch that fails delivers, by draw number. -/
opaque Config.failedFetchByte : Nat → Byte

end Sys2Proof
end

