-- ==== Sys2Proof/Syntax.lean ====
section
/-! DEFINITION. The operations of the hardware, one constructor per row of spec/opcode_table.json. -/

namespace Sys2Proof

/-- An operation (R3: what FORMAT.md calls an instruction). Operands are the fields the row's format gives it; bits the
spec calls ignored are not carried, except where the whole byte is stored (log 3). -/
inductive Instr where
  /-- MEMRD (R220) -/
  | memrd (a : Addr)
  /-- MEMWR (R221) -/
  | memwr (a : Addr) (v : Byte)
  /-- IORD of a port that has no row of its own (R231) -/
  | iord (p : Byte)
  /-- IOWR of a port that has no row of its own (R232) -/
  | iowr (p v : Byte)
  /-- RESET (R370) -/
  | reset
  /-- SET_MODEL (R130) -/
  | setModel (m : Byte)
  /-- SET_ROMIN (R131) -/
  | setRomin (b : Bool)
  /-- MAP_SEL (R132) -/
  | mapSel (n : BitVec 2)
  /-- BANK_CMD (R133) -/
  | bankCmd (c : Byte)
  /-- VIDEO_PAGE (R144) -/
  | videoPage (w : Bool)
  /-- EXP_WR (R136) -/
  | expWr (v : Byte)
  /-- EXP_RD (R139) -/
  | expRd
  /-- SEL_WR (R141) -/
  | selWr (v : Byte)
  /-- ROMLD (R145) -/
  | romld (a : Addr) (v : Byte)
  /-- VIEWRD (R226) -/
  | viewrd (a : Addr)
  /-- VIEWWR (R227) -/
  | viewwr (a : Addr)
  /-- RESERVED_KIND_8_15 (R92): a word whose bit 27 is 1, with its other 27 bits -/
  | reservedKind (rest : BitVec 27)
  /-- RESERVED_SB (R94, R97): a side-band word with number 0x09..0xFF or a non-zero `addr[7:0]` -/
  | reservedSb (number zero data : Byte)
  /-- IOWR_SELECTOR, port 0x1F (R146, R141) -/
  | iowrSelector (v : Byte)
  /-- IOWR_EXPANSION_A, port 0x43 (R146, R136) -/
  | iowrExpansionA (v : Byte)
  /-- IORD_EXPANSION_A, port 0x43 (R146, R139) -/
  | iordExpansionA
  /-- IOWR_BANKREG, port 0x84 (R146, R103) -/
  | iowrBankreg (v : Byte)
  /-- IOWR_EXPANSION_CD, port 0x94 (R146, R136) -/
  | iowrExpansionCd (v : Byte)
  /-- IORD_EXPANSION_CD, port 0x94 (R146, R139) -/
  | iordExpansionCd
  /-- IOWR_ROMCTL, port 0x9C (R146, R131, R105) -/
  | iowrRomctl (v : Byte)
  /-- IORD_WP, port 0xC0 (R251) -/
  | iordWp
  /-- IOWR_WP, port 0xC0 (R263) -/
  | iowrWp (v : Byte)
  /-- IORD_CONTROL, port 0xC1 (R253) -/
  | iordControl
  /-- IOWR_CONTROL, port 0xC1 (R252) -/
  | iowrControl (v : Byte)
  /-- IORD_DATA, port 0xC8 (R254, R293, R294) -/
  | iordData
  /-- IOWR_DATA, port 0xC8 (R255, R295 to R297) -/
  | iowrData (v : Byte)
  /-- IORD_ERROR, port 0xC9 (R256) -/
  | iordError
  /-- IOWR_PRECOMP, port 0xC9 (R256) -/
  | iowrPrecomp (v : Byte)
  /-- IORD_SECCNT, port 0xCA (R257) -/
  | iordSeccnt
  /-- IOWR_SECCNT, port 0xCA (R257) -/
  | iowrSeccnt (v : Byte)
  /-- IORD_SECNUM, port 0xCB (R258) -/
  | iordSecnum
  /-- IOWR_SECNUM, port 0xCB (R258) -/
  | iowrSecnum (v : Byte)
  /-- IORD_CYLLO, port 0xCC (R259) -/
  | iordCyllo
  /-- IOWR_CYLLO, port 0xCC (R259) -/
  | iowrCyllo (v : Byte)
  /-- IORD_CYLHI, port 0xCD (R260) -/
  | iordCylhi
  /-- IOWR_CYLHI, port 0xCD (R260) -/
  | iowrCylhi (v : Byte)
  /-- IORD_SDH, port 0xCE (R261) -/
  | iordSdh
  /-- IOWR_SDH, port 0xCE (R261) -/
  | iowrSdh (v : Byte)
  /-- IORD_STATUS, port 0xCF (R262) -/
  | iordStatus
  /-- IOWR_COMMAND, port 0xCF (R262, R280) -/
  | iowrCommand (v : Byte)
  /-- BANK_0: banking command byte 0x00 (R134) -/
  | bank0
  /-- BANK_2: banking command byte 0x02 (R134) -/
  | bank2
  /-- BANK_3: banking command byte 0x03 (R134) -/
  | bank3
  /-- BANK_6: banking command byte 0x06 (R134) -/
  | bank6
  /-- BANK_7: banking command byte 0x07 (R134) -/
  | bank7
  /-- BANK_ILLEGAL: any other banking command byte (R135) -/
  | bankIllegal (c : Byte)
  /-- RESTORE: controller command byte 0x1x (R282) -/
  | restore (low : BitVec 4)
  /-- READ: controller command byte 0x20..0x27 (R283) -/
  | read (low : BitVec 3)
  /-- READ_DMA: controller command byte 0x28..0x2F (R284) -/
  | readDma (low : BitVec 3)
  /-- WRITE: controller command byte 0x30..0x37 (R285) -/
  | write (low : BitVec 3)
  /-- WRITE_DMA: controller command byte 0x38..0x3F (R284) -/
  | writeDma (low : BitVec 3)
  /-- VERIFY: controller command byte 0x4x (R286) -/
  | verify (low : BitVec 4)
  /-- FORMAT: controller command byte 0x5x (R287) -/
  | format (low : BitVec 4)
  /-- INIT: controller command byte 0x6x (R288) -/
  | init (low : BitVec 4)
  /-- SEEK: controller command byte 0x7x (R289) -/
  | seek (low : BitVec 4)
  /-- UNKNOWN_0: controller command byte 0x0x (R298) -/
  | unknown0 (low : BitVec 4)
  /-- UNKNOWN_8_F: controller command byte 0x80..0xFF (R298) -/
  | unknown8F (low : BitVec 7)
  /-- WORDRD, composite (R224) -/
  | wordrd (a : Addr)
  /-- WORDWR, composite (R225) -/
  | wordwr (a w : Addr)
  /-- BLOCK, composite (R228) -/
  | block (dst src count : Addr) (dir : Direction)
deriving DecidableEq, Repr

end Sys2Proof
end

