-- ==== Sys2Proof/WellFormed.lean ====
section
/-! DEFINITION. Which terms of `Instr` stand for an encoding (30_encoding.md): the operand classes that one row takes
away from another. -/

namespace Sys2Proof

/-- The ports a read of which has a row of its own (R104). -/
def readPorts : List Byte :=
  [0x43#8, 0x94#8, 0xC0#8, 0xC1#8, 0xC8#8, 0xC9#8, 0xCA#8, 0xCB#8, 0xCC#8, 0xCD#8, 0xCE#8, 0xCF#8]

/-- The ports a write of which has a row of its own (R104). -/
def writePorts : List Byte :=
  [0x1F#8, 0x43#8, 0x84#8, 0x94#8, 0x9C#8, 0xC0#8, 0xC1#8, 0xC8#8, 0xC9#8, 0xCA#8, 0xCB#8, 0xCC#8, 0xCD#8, 0xCE#8,
    0xCF#8]

/-- The legal banking commands (R102). -/
def legalBankBytes : List Byte := [0#8, 2#8, 3#8, 6#8, 7#8]

/-- A side-band word with this number and `addr[7:0]` is reserved (R94, R97). -/
def reservedSideBand (number zero : Byte) : Bool := decide (9 ≤ number.toNat) || decide (zero ≠ 0#8)

/-- The operands are ones the row's encoding admits: the generic port rows stand only for ports without a row, the
reserved side-band row only for reserved words, the illegal banking row only for illegal commands. -/
def Instr.wellFormed : Instr → Bool
  | .iord p => decide (p ∉ readPorts)
  | .iowr p _ => decide (p ∉ writePorts)
  | .reservedSb number zero _ => reservedSideBand number zero
  | .bankIllegal c => decide (c ∉ legalBankBytes)
  | .memrd _ | .memwr _ _ | .reset | .setModel _ | .setRomin _ | .mapSel _ | .bankCmd _ | .videoPage _ | .expWr _
  | .expRd | .selWr _ | .romld _ _ | .viewrd _ | .viewwr _ | .reservedKind _ | .iowrSelector _ | .iowrExpansionA _
  | .iordExpansionA | .iowrBankreg _ | .iowrExpansionCd _ | .iordExpansionCd | .iowrRomctl _ | .iordWp | .iowrWp _
  | .iordControl | .iowrControl _ | .iordData | .iowrData _ | .iordError | .iowrPrecomp _ | .iordSeccnt
  | .iowrSeccnt _ | .iordSecnum | .iowrSecnum _ | .iordCyllo | .iowrCyllo _ | .iordCylhi | .iowrCylhi _ | .iordSdh
  | .iowrSdh _ | .iordStatus | .iowrCommand _ | .bank0 | .bank2 | .bank3 | .bank6 | .bank7 | .restore _ | .read _
  | .readDma _ | .write _ | .writeDma _ | .verify _ | .format _ | .init _ | .seek _ | .unknown0 _ | .unknown8F _
  | .wordrd _ | .wordwr _ _ | .block _ _ _ _ => true

end Sys2Proof
end

