-- ==== Sys2Proof/Decode.lean ====
section
/-! DEFINITION. How an operation is written as bits and read back (30_encoding.md rules R91 to R115): requests, the
decoder, the encoder, and the reading of an opcode-table word. -/

namespace Sys2Proof

/-- One operation as the platform presents it (R90, R100). The transaction word travels in four bytes (log 3); a
banking command and a controller command can also be presented by their byte alone, as the table's 8-bit rows have them
(log 2); composites have no transaction word (R100). -/
inductive Request where
  /-- the transaction word of R91 in bits 27:0 -/
  | word (t : BitVec 32)
  /-- the operand of `apply_bank_command` (R102, R133) -/
  | bankByte (c : Byte)
  /-- the byte of a COMMAND port write (R114, R280) -/
  | commandByte (v : Byte)
  /-- WORDRD a (R100) -/
  | wordrd (a : Addr)
  /-- WORDWR a, w (R100) -/
  | wordwr (a w : Addr)
  /-- BLOCK dst, src, count, dir (R100) -/
  | block (dst src count : Addr) (dir : Direction)
  /-- `nbits` bits of value `w`, of a width that no row of the table has -/
  | raw (nbits w : Nat)
deriving DecidableEq, Repr

/-- Why bits are no operation. -/
inductive DecodeError where
  /-- a number of bits that no row of the opcode table has -/
  | width (nbits : Nat)
  /-- bits above bit 27 are set: the transaction word has 28 bits (R91) -/
  | aboveWord
deriving DecidableEq, Repr

/-- An IORD word by its port (R104, R231): the row of the port, or the generic row. -/
def decodeIord (p : Byte) : Instr :=
  if p = 0x43#8 then .iordExpansionA
  else if p = 0x94#8 then .iordExpansionCd
  else if p = 0xC0#8 then .iordWp
  else if p = 0xC1#8 then .iordControl
  else if p = 0xC8#8 then .iordData
  else if p = 0xC9#8 then .iordError
  else if p = 0xCA#8 then .iordSeccnt
  else if p = 0xCB#8 then .iordSecnum
  else if p = 0xCC#8 then .iordCyllo
  else if p = 0xCD#8 then .iordCylhi
  else if p = 0xCE#8 then .iordSdh
  else if p = 0xCF#8 then .iordStatus
  else .iord p

/-- An IOWR word by its port (R104, R232). -/
def decodeIowr (p v : Byte) : Instr :=
  if p = 0x1F#8 then .iowrSelector v
  else if p = 0x43#8 then .iowrExpansionA v
  else if p = 0x84#8 then .iowrBankreg v
  else if p = 0x94#8 then .iowrExpansionCd v
  else if p = 0x9C#8 then .iowrRomctl v
  else if p = 0xC0#8 then .iowrWp v
  else if p = 0xC1#8 then .iowrControl v
  else if p = 0xC8#8 then .iowrData v
  else if p = 0xC9#8 then .iowrPrecomp v
  else if p = 0xCA#8 then .iowrSeccnt v
  else if p = 0xCB#8 then .iowrSecnum v
  else if p = 0xCC#8 then .iowrCyllo v
  else if p = 0xCD#8 then .iowrCylhi v
  else if p = 0xCE#8 then .iowrSdh v
  else if p = 0xCF#8 then .iowrCommand v
  else .iowr p v

/-- A side-band word by its operation number (R94); `addr[7:0]` must be 0 (R97). -/
def decodeSideBand (number zero data : Byte) : Instr :=
  if zero ≠ 0#8 then .reservedSb number zero data
  else if number = 0x00#8 then .reset
  else if number = 0x01#8 then .setModel data
  else if number = 0x02#8 then .setRomin (data.getLsbD 0)
  else if number = 0x03#8 then .mapSel (data.extractLsb' 0 2)
  else if number = 0x04#8 then .bankCmd data
  else if number = 0x05#8 then .videoPage (data.getLsbD 0)
  else if number = 0x06#8 then .expWr data
  else if number = 0x07#8 then .expRd
  else if number = 0x08#8 then .selWr data
  else .reservedSb number zero data

/-- The fields of a transaction word (R91) by its `kind` (R92). -/
def decodeKind (kind : BitVec 4) (hi lo data : Byte) : Instr :=
  if kind = 0#4 then .memrd (hi ++ lo)
  else if kind = 1#4 then .memwr (hi ++ lo) data
  else if kind = 2#4 then decodeIord lo
  else if kind = 3#4 then decodeIowr lo data
  else if kind = 4#4 then decodeSideBand hi lo data
  else if kind = 5#4 then .romld (hi ++ lo) data
  else if kind = 6#4 then .viewrd (hi ++ lo)
  else if kind = 7#4 then .viewwr (hi ++ lo)
  else .reservedKind (kind.extractLsb' 0 3 ++ hi ++ lo ++ data)

/-- The transaction word's fields: `kind` 27:24, `addr` 23:8, `data` 7:0 (R91). -/
def decodeTransaction (t : TWord) : Instr :=
  decodeKind (t.extractLsb' 24 4) (t.extractLsb' 16 8) (t.extractLsb' 8 8) (t.extractLsb' 0 8)

/-- A banking command byte (R102, R134, R135). -/
def decodeBankByte (c : Byte) : Instr :=
  if c = 0#8 then .bank0
  else if c = 2#8 then .bank2
  else if c = 3#8 then .bank3
  else if c = 6#8 then .bank6
  else if c = 7#8 then .bank7
  else .bankIllegal c

/-- A controller command byte: opcode 7:4, DMA flag 3, bits 2:0 ignored (R114, R115). -/
def decodeCommandFields (opcode : BitVec 4) (dma : BitVec 1) (low : BitVec 3) : Instr :=
  if opcode = 0#4 then .unknown0 (dma ++ low)
  else if opcode = 1#4 then .restore (dma ++ low)
  else if opcode = 2#4 then (if dma = 1#1 then .readDma low else .read low)
  else if opcode = 3#4 then (if dma = 1#1 then .writeDma low else .write low)
  else if opcode = 4#4 then .verify (dma ++ low)
  else if opcode = 5#4 then .format (dma ++ low)
  else if opcode = 6#4 then .init (dma ++ low)
  else if opcode = 7#4 then .seek (dma ++ low)
  else .unknown8F (opcode.extractLsb' 0 3 ++ dma ++ low)

/-- A controller command byte split into its fields (R114). -/
def decodeCommandByte (v : Byte) : Instr :=
  decodeCommandFields (v.extractLsb' 4 4) (v.extractLsb' 3 1) (v.extractLsb' 0 3)

/-- The operation a request stands for, or why it stands for none. Total on any request. -/
def decode : Request → Except DecodeError Instr
  | .word t => if t.extractLsb' 28 4 = 0#4 then .ok (decodeTransaction (t.extractLsb' 0 28)) else .error .aboveWord
  | .bankByte c => .ok (decodeBankByte c)
  | .commandByte v => .ok (decodeCommandByte v)
  | .wordrd a => .ok (.wordrd a)
  | .wordwr a w => .ok (.wordwr a w)
  | .block dst src count dir => .ok (.block dst src count dir)
  | .raw nbits _ => .error (.width nbits)

/-- The transaction word with these fields (R91), in its four bytes. -/
def transaction (kind : BitVec 4) (hi lo data : Byte) : Request := .word (0#4 ++ kind ++ hi ++ lo ++ data)

/-- A word of format MEM (R95). -/
def transactionMem (kind : BitVec 4) (a : Addr) (data : Byte) : Request :=
  transaction kind (a.extractLsb' 8 8) (a.extractLsb' 0 8) data

/-- A word of format SB (R97). -/
def transactionSb (number data : Byte) : Request := transaction 4#4 number 0#8 data

/-- A word of format IO with `addr[15:8]` zero: a port read (R96). -/
def transactionIord (p : Byte) : Request := transaction 2#4 0#8 p 0#8

/-- A word of format IO with `addr[15:8]` zero: a port write (R96). -/
def transactionIowr (p v : Byte) : Request := transaction 3#4 0#8 p v

/-- The written form of an operation (R91 to R99, R102, R104, R114): bits the spec ignores are 0. -/
def encode : Instr → Request
  | .memrd a => transactionMem 0#4 a 0#8
  | .memwr a v => transactionMem 1#4 a v
  | .iord p => transactionIord p
  | .iowr p v => transactionIowr p v
  | .reset => transactionSb 0x00#8 0#8
  | .setModel m => transactionSb 0x01#8 m
  | .setRomin b => transactionSb 0x02#8 (0#7 ++ BitVec.ofBool b)
  | .mapSel n => transactionSb 0x03#8 (0#6 ++ n)
  | .bankCmd c => transactionSb 0x04#8 c
  | .videoPage w => transactionSb 0x05#8 (0#7 ++ BitVec.ofBool w)
  | .expWr v => transactionSb 0x06#8 v
  | .expRd => transactionSb 0x07#8 0#8
  | .selWr v => transactionSb 0x08#8 v
  | .romld a v => transactionMem 5#4 a v
  | .viewrd a => transactionMem 6#4 a 0#8
  | .viewwr a => transactionMem 7#4 a 0#8
  | .reservedKind rest => .word (0#4 ++ 1#1 ++ rest)
  | .reservedSb number zero data => transaction 4#4 number zero data
  | .iowrSelector v => transactionIowr 0x1F#8 v
  | .iowrExpansionA v => transactionIowr 0x43#8 v
  | .iordExpansionA => transactionIord 0x43#8
  | .iowrBankreg v => transactionIowr 0x84#8 v
  | .iowrExpansionCd v => transactionIowr 0x94#8 v
  | .iordExpansionCd => transactionIord 0x94#8
  | .iowrRomctl v => transactionIowr 0x9C#8 v
  | .iordWp => transactionIord 0xC0#8
  | .iowrWp v => transactionIowr 0xC0#8 v
  | .iordControl => transactionIord 0xC1#8
  | .iowrControl v => transactionIowr 0xC1#8 v
  | .iordData => transactionIord 0xC8#8
  | .iowrData v => transactionIowr 0xC8#8 v
  | .iordError => transactionIord 0xC9#8
  | .iowrPrecomp v => transactionIowr 0xC9#8 v
  | .iordSeccnt => transactionIord 0xCA#8
  | .iowrSeccnt v => transactionIowr 0xCA#8 v
  | .iordSecnum => transactionIord 0xCB#8
  | .iowrSecnum v => transactionIowr 0xCB#8 v
  | .iordCyllo => transactionIord 0xCC#8
  | .iowrCyllo v => transactionIowr 0xCC#8 v
  | .iordCylhi => transactionIord 0xCD#8
  | .iowrCylhi v => transactionIowr 0xCD#8 v
  | .iordSdh => transactionIord 0xCE#8
  | .iowrSdh v => transactionIowr 0xCE#8 v
  | .iordStatus => transactionIord 0xCF#8
  | .iowrCommand v => transactionIowr 0xCF#8 v
  | .bank0 => .bankByte 0#8
  | .bank2 => .bankByte 2#8
  | .bank3 => .bankByte 3#8
  | .bank6 => .bankByte 6#8
  | .bank7 => .bankByte 7#8
  | .bankIllegal c => .bankByte c
  | .restore low => .commandByte (1#4 ++ low)
  | .read low => .commandByte (2#4 ++ 0#1 ++ low)
  | .readDma low => .commandByte (2#4 ++ 1#1 ++ low)
  | .write low => .commandByte (3#4 ++ 0#1 ++ low)
  | .writeDma low => .commandByte (3#4 ++ 1#1 ++ low)
  | .verify low => .commandByte (4#4 ++ low)
  | .format low => .commandByte (5#4 ++ low)
  | .init low => .commandByte (6#4 ++ low)
  | .seek low => .commandByte (7#4 ++ low)
  | .unknown0 low => .commandByte (0#4 ++ low)
  | .unknown8F low => .commandByte (1#1 ++ low)
  | .wordrd a => .wordrd a
  | .wordwr a w => .wordwr a w
  | .block dst src count dir => .block dst src count dir

/-- The request that `nbits` bits of value `w`, numbered as the opcode table numbers them, present: 28 bits (four whole
bytes) are a transaction word; 8 bits are a banking command below 8 and a controller command from 8 on (log 2: the
table has both in 8 bits). -/
def requestOfBits (nbits w : Nat) : Request :=
  if nbits = 28 ∨ nbits = 32 then
    (if w < 2 ^ 32 then .word (BitVec.ofNat 32 w) else .raw nbits w)
  else if nbits = 8 then
    (if w < 8 then .bankByte (BitVec.ofNat 8 w)
     else if w < 256 then .commandByte (BitVec.ofNat 8 w)
     else .raw nbits w)
  else .raw nbits w

/-- The operation the decoder reads from an opcode-table word, if it reads one. -/
def decodeTableWord (nbits w : Nat) : Option Instr :=
  match decode (requestOfBits nbits w) with
  | .ok i => some i
  | .error _ => none

end Sys2Proof
end

