-- ==== Sys2Proof/Machine/State.lean ====
section
/-! DEFINITION. The state of the hardware (10_state.md), as plain data, and its value after power-on and RESET. -/

namespace Sys2Proof.Machine

/-- A byte store: (address, byte) pairs with strictly rising addresses. An unlisted address has no value (log 5): what
an operation reads there is a free value. -/
abbrev Memory := List Host.Cell

/-- One of each thing per drive slot (R45, R320). -/
structure PerDrive (α : Type) where
  d0 : α
  d1 : α
  d2 : α
  d3 : α
deriving DecidableEq, Repr

/-- The legal banking commands, the values `last_cmd` can hold (R31, R102). -/
inductive BankCommand where
  | c0
  | c2
  | c3
  | c6
  | c7
deriving DecidableEq, Repr

/-- The two values of `video_offset` (R32). -/
inductive VideoPage where
  /-- `PAGE0_BASE`, 0x000 -/
  | page0
  /-- `PAGE1_BASE`, 0x400 -/
  | page1
deriving DecidableEq, Repr

/-- The bank state and the mode selector's fields (R21). -/
structure Bank where
  mapSel : BitVec 2
  romin : Bool
  selectorReg : Byte
  bankOffset0 : BankWord
  bankOffset1 : BankWord
  bankBase : BankWord
  lastCmd : BankCommand
  videoPage : VideoPage
deriving DecidableEq, Repr

/-- The HDC register file and sequencer state (R35). -/
structure Hdc where
  control : Byte
  data : Byte
  error : Byte
  seccnt : Byte
  secnum : Byte
  status : Byte
  command : Byte
  cyl : BitVec 16
  drive : BitVec 3
  head : BitVec 4
  bytesdone : Nat
deriving DecidableEq, Repr

/-- The per-drive record `drv[d]` (R45, R46). -/
structure Slot where
  isOpen : Bool
  writeprot : Bool
  cylinders : Nat
  heads : Nat
  sectorsPerTrack : Nat
  fpos : Nat
deriving DecidableEq, Repr

/-- A closed slot: every field 0 (R45, R50). -/
def Slot.closed : Slot :=
  { isOpen := false, writeprot := false, cylinders := 0, heads := 0, sectorsPerTrack := 0, fpos := 0 }

/-- A disk image (R320): its access, its length `L`, and those of its bytes that are known. A byte below `len` that is
not listed is unspecified (U4, log 5). -/
structure Image where
  access : Access
  len : Nat
  bytes : Memory
deriving DecidableEq, Repr

/-- One failing media operation of the parameter `IOFAULT` (R329, U5; log 8). -/
structure IoFaultAt where
  slot : SlotId
  op : MediaOp
  pos : Nat
deriving DecidableEq, Repr

/-- The codes of the diagnostic channel (R345). -/
inductive DiagCode where
  | cfgModel
  | cfgBankCmd
  | cfgRomRange
  | cfgSizeBits
  | cfgFormatParams
  | cfgBadHeader
  | cfgBadGeometry
  | protoUnknownCmd
  | protoDma
  | protoInit
deriving DecidableEq, Repr

/-- What an operation hands to the world outside (R12; log 9). -/
inductive Event where
  /-- `Display.update(off, v)` (R222) -/
  | display (off : Nat) (v : Byte)
  /-- a `Periph.read(region, off)` was made (R223) -/
  | periphRead (r : Region) (off : Nat)
  /-- `Periph.write(region, off, v)` (R223) -/
  | periphWrite (r : Region) (off : Nat) (v : Byte)
  /-- `diag(code)` (R345) -/
  | diag (c : DiagCode)
deriving DecidableEq, Repr

/-- The result an operation returns (R92, R224, R226, R228; log 10). -/
inductive Answer where
  /-- no result -/
  | nothing
  | byte (v : Byte)
  | word (w : Addr)
  /-- a view `(reg, off, len)` (R226) -/
  | view (r : Region) (off len : Nat)
  /-- the view accessor's other outcome (R226) -/
  | unmapped
  /-- the port is not this hardware's (R80, R231) -/
  | notMine
deriving DecidableEq, Repr

/-- The state of the machine (R20), with its straps (R8; log 4) and the model's own fields `pending`, `answer`,
`events` and `draws` (logs 1, 10, 9, 6). -/
structure State where
  model : Model
  straps : Straps
  ioFaults : List IoFaultAt
  ram : Memory
  rom : Memory
  romSize : Fin (Config.romMax + 1)
  video : Memory
  bank : Bank
  hdc : Hdc
  drv : PerDrive Slot
  media : PerDrive (Option Image)
  pending : List Request
  answer : Answer
  events : List Event
  draws : Nat
deriving DecidableEq, Repr

/-- The one reason the machine can stop with a fault. The hardware itself raises none (R340). -/
inductive Fault where
  /-- Raised by the commands and data-port accesses that use a drive slot when the 3-bit drive register names one of
  the slots 4..7, which do not exist (R7 `NDRIVES`, R35). Safe: bit 2 of the register is always 0 in a run (R51), so no
  run reaches it (log 12). -/
  | noSuchSlot (drive : BitVec 3)
deriving DecidableEq, Repr

/-- Why the model gives an operation no meaning. -/
inductive Refusal where
  /-- Raised by `exec` for an operation that has no meaning yet. Safe. -/
  | notModelled (mnemonic : String)
  /-- Raised by a transaction word of kind 8..15: "refused: the model gives the word no meaning" (R92, R116, U7).
  Safe: it is the spec's own stop. -/
  | reservedKind
  /-- Raised by a side-band word with a reserved number or with `addr[7:0]` not 0 (R94, R97, R116, U7). Safe: it is the
  spec's own stop. -/
  | reservedSideBand
  /-- Raised by SET_MODEL for a model the straps do not suit, and by `step` in such a state: "the configuration is
  refused" (R130, R8, U14; log 11). Safe: it is the spec's own stop. -/
  | illegalConfiguration
  /-- Raised by `step` for a request that is no operation (R91; log 3). Safe. -/
  | undecodable (e : DecodeError)
deriving DecidableEq, Repr

/-- The state at power-on for a given configuration: RESET applied where `rom_size` is 0 and nothing has been written
(R372, R49, R50). -/
def State.powerOn (model : Model) (straps : Straps) (media : PerDrive (Option Image)) (ioFaults : List IoFaultAt) :
    State where
  model := model
  straps := straps
  ioFaults := ioFaults
  ram := []
  rom := []
  romSize := 0
  video := []
  bank :=
    { mapSel := 0#2, romin := decide (model = .d), selectorReg := 0x00#8, bankOffset0 := 0#21, bankOffset1 := 0#21,
      bankBase := if model = .c ∨ model = .d then 0x10000#21 else 0#21, lastCmd := .c0, videoPage := .page0 }
  hdc :=
    { control := 0x00#8, data := 0x00#8, error := 0x00#8, seccnt := 0x00#8, secnum := 0x00#8, status := 0x00#8,
      command := 0x00#8, cyl := 0x0000#16, drive := 0#3, head := 0#4, bytesdone := 0 }
  drv := { d0 := .closed, d1 := .closed, d2 := .closed, d3 := .closed }
  media := media
  pending := []
  answer := .nothing
  events := []
  draws := 0

/-- The machine right after reset: power-on of the configuration of log 4, with no medium in any slot. -/
def State.reset : State :=
  .powerOn Config.resetModel Config.resetStraps { d0 := none, d1 := none, d2 := none, d3 := none } []

end Sys2Proof.Machine
end

