-- ==== Sys2Proof/Machine/Flags.lean ====
section
/-! DEFINITION. The flags of the hardware: READY, DRQ and ERR of `hdc.status` with the code in `hdc.error` (R36, R37,
R48), and the only ways they change (R281). -/

namespace Sys2Proof.Machine

/-- `ST_RESET` (R36). -/
abbrev stReset : Byte := 0x00#8

/-- `ST_READY` (R36). -/
abbrev stReady : Byte := 0x40#8

/-- `ST_READY_DRQ` (R36). -/
abbrev stReadyDrq : Byte := 0x48#8

/-- `ST_ERROR` (R36). -/
abbrev stError : Byte := 0x01#8

/-- `ERR_NONE` (R37). -/
abbrev errNone : Byte := 0x00#8

/-- `ERR_ABORT` (R37). -/
abbrev errAbort : Byte := 0x04#8

/-- `ERR_NOTFOUND` (R37). -/
abbrev errNotFound : Byte := 0x10#8

/-- `ERR_DATA` (R37). -/
abbrev errData : Byte := 0x40#8

/-- `hdc.status` and `hdc.error` written together (R47 (a)). -/
def State.setStatus (s : State) (status error : Byte) : State :=
  { s with hdc := { s.hdc with status := status, error := error } }

/-- `SetReady()` (R281). -/
def State.setReady (s : State) : State := s.setStatus stReady errNone

/-- `SetReadyDrq()` (R281). -/
def State.setReadyDrq (s : State) : State := s.setStatus stReadyDrq errNone

/-- `SetError(code)` (R281). -/
def State.setError (s : State) (code : Byte) : State := s.setStatus stError code

/-- The ERR bit: bit 0 of `hdc.status` (R36). -/
def State.errPending (s : State) : Bool := s.hdc.status.getLsbD 0

end Sys2Proof.Machine
end

