-- ==== Sys2Proof/Machine/Operands.lean ====
section
/-! DEFINITION. The operand forms: the sub-fields of data bytes (30_encoding.md rules R102 to R114), model ids, slots, and
address decoding, the spec's `Decode(a, rw)` (41_decode_variant_a.md, 42_decode_variants_bcd.md), here called `route`. -/

namespace Sys2Proof.Machine

/-- The variant with this model id (R2, R130). -/
def modelOfId (m : Byte) : Option Model :=
  if m = 1#8 then some .a
  else if m = 3#8 then some .b
  else if m = 4#8 then some .c
  else if m = 5#8 then some .d
  else none

/-- The model id `MODEL` (R2). -/
def modelId : Model → BitVec 3
  | .a => 1#3
  | .b => 3#3
  | .c => 4#3
  | .d => 5#3

/-- The legal banking command this operand is (R102). -/
def bankCommandOf (c : Byte) : Option BankCommand :=
  if c = 0#8 then some .c0
  else if c = 2#8 then some .c2
  else if c = 3#8 then some .c3
  else if c = 6#8 then some .c6
  else if c = 7#8 then some .c7
  else none

/-- The number of a diagnostic code (R345). -/
def diagNumber : DiagCode → Nat
  | .cfgModel => 1
  | .cfgBankCmd => 2
  | .cfgRomRange => 3
  | .cfgSizeBits => 4
  | .cfgFormatParams => 5
  | .cfgBadHeader => 6
  | .cfgBadGeometry => 7
  | .protoUnknownCmd => 8
  | .protoDma => 9
  | .protoInit => 10

/-- The slot a drive register names; slots 4..7 do not exist (R7 `NDRIVES`, R39). -/
def slotOfDrive (d : BitVec 3) : Option SlotId :=
  if d = 0#3 then some .s0
  else if d = 1#3 then some .s1
  else if d = 2#3 then some .s2
  else if d = 3#3 then some .s3
  else none

/-- The configuration is one R8 allows: at most one expansion, each on the variants that take it, and 1 to 255 sectors
per track. -/
def legalConfiguration (model : Model) (straps : Straps) : Bool :=
  (!straps.huffmanRam || (decide (model = .c) || decide (model = .d)))
    && (!straps.supermem || decide (model = .a))
    && (!straps.selectorEnabled || decide (model = .a))
    && !(straps.huffmanRam && straps.supermem)
    && !(straps.huffmanRam && straps.selectorEnabled)
    && !(straps.supermem && straps.selectorEnabled)
    && decide (1 ≤ straps.sectorsPerTrack)
    && decide (straps.sectorsPerTrack ≤ 255)

/-- Banking register: bit 7, the video page (R103). -/
def bankregPage (v : Byte) : Bool := v.getLsbD 7

/-- Banking register: bits 6:4, the banking command (R103). -/
def bankregCommand (v : Byte) : Byte := (v.extractLsb' 4 3).zeroExtend 8

/-- Banking register: bits 1:0, the map (R103). -/
def bankregMap (v : Byte) : BitVec 2 := v.extractLsb' 0 2

/-- ROM control: bit 0, the new `romin` (R105). -/
def romctlRomin (v : Byte) : Bool := v.getLsbD 0

/-- The Huffman base: `v[4:0] << 16` (R106, R137). -/
def huffmanBase (v : Byte) : BankWord := v.extractLsb' 0 5 ++ 0#16

/-- The Supermem base: `v[3:0] << 15` (R106, R138). -/
def supermemBase (v : Byte) : BankWord := 0#2 ++ v.extractLsb' 0 4 ++ 0#15

/-- The selector's base by the formula of R141. -/
def selectorBase (v : Byte) : BankWord :=
  if v.getLsbD 3 then
    0x8000#21 + (0#4 ++ v.extractLsb' 4 2 ++ 0#15) + (if v.getLsbD 0 then 0x8000#21 else 0#21)
  else 0#21

/-- Drive-head select: bits 6:5, the size field (R112). -/
def sdhSize (v : Byte) : BitVec 2 := v.extractLsb' 5 2

/-- Drive-head select: bits 4:3, zero-extended to the 3-bit drive register (R112). -/
def sdhDrive (v : Byte) : BitVec 3 := 0#1 ++ v.extractLsb' 3 2

/-- Drive-head select: bits 2:0, zero-extended to the 4-bit head register (R112). -/
def sdhHead (v : Byte) : BitVec 4 := 0#1 ++ v.extractLsb' 0 3

/-- What the drive-head select port reads: `000 ‖ drive[1:0] ‖ head[2:0]` (R112, R261). -/
def sdhByte (drive : BitVec 3) (head : BitVec 4) : Byte := 0#3 ++ drive.extractLsb' 0 2 ++ head.extractLsb' 0 3

/-- Control port: bit 4, the soft reset (R109). -/
def controlSoftReset (v : Byte) : Bool := v.getLsbD 4

/-- Command byte: bits 7:4, the opcode (R114). -/
def commandOpcode (v : Byte) : BitVec 4 := v.extractLsb' 4 4

/-- Command byte: bit 3, the DMA flag (R114). -/
def commandDma (v : Byte) : Bool := v.getLsbD 3

/-- The mode codes (R27, R101), one constructor per rule set of the decoder. -/
inductive ModeCode where
  /-- 0x10 to 0x17: variant A with its sub-mode -/
  | a (sub : BitVec 3)
  /-- 0x30 -/
  | b
  /-- 0x40 to 0x43: variant C with its map -/
  | c (map : BitVec 2)
  /-- 0x50 to 0x57: variant D with `romin` and its map -/
  | d (romin : Bool) (map : BitVec 2)
deriving DecidableEq, Repr

/-- The active mode (R27): derived, "recomputed whenever model, banking command, or boot-ROM-visibility changes". -/
def State.mode (s : State) : ModeCode :=
  match s.model with
  | .a => .a (if s.straps.selectorEnabled then s.bank.selectorReg.extractLsb' 0 3 else 0#3)
  | .b => .b
  | .c => .c s.bank.mapSel
  | .d => .d s.bank.romin s.bank.mapSel

/-- The 7-bit number of a mode code (R27, R101). -/
def ModeCode.code : ModeCode → BitVec 7
  | .a sub => 1#3 ++ 0#1 ++ sub
  | .b => 0x30#7
  | .c map => 4#3 ++ 0#2 ++ map
  | .d romin map => 5#3 ++ 0#1 ++ BitVec.ofBool romin ++ map

/-- The direction of an access (R12). -/
inductive Dir where
  | rd
  | wr
deriving DecidableEq, Repr

/-- What an address decodes to: a region and an offset in it (R63). -/
structure Target where
  region : Region
  off : Nat
deriving DecidableEq, Repr

/-- An unmapped address (R64). -/
def Target.unmapped : Target := ⟨.none, 0⟩

/-- `video_offset` (R32). -/
def State.videoOffset (s : State) : Nat :=
  match s.bank.videoPage with
  | .page0 => 0x000
  | .page1 => 0x400

/-- A video target whose zone starts `d` below the address (R79). -/
def State.videoTarget (s : State) (d : Nat) : Target := ⟨.video, d + s.videoOffset⟩

/-- `a` lies in the upper 32 KiB half: `a[15]` = 1 (00_scope.md section 6, "Half"). -/
def upperHalf (a : Nat) : Bool := decide (0x8000 ≤ a)

/-- Some adjustment is fitted on variant A: `adj` of R162. -/
def State.adjusts (s : State) : Bool := s.straps.selectorEnabled || s.straps.supermem

/-- The half of `a` is the banked one on variant A: `(a & 0x8000) = active_half` (R162). -/
def State.inActiveHalf (s : State) (a : Nat) : Bool :=
  if s.bank.selectorReg.getLsbD 0 then !upperHalf a else upperHalf a

/-- `ARAM(a, o)` (R162): the RAM target of variant A. -/
def State.aram (s : State) (a o : Nat) : Target :=
  if s.adjusts && s.inActiveHalf a then ⟨.ram, o + s.bank.bankBase.toNat⟩ else ⟨.ram, o⟩

/-- `AMMIO_RD(m, romvis)` (R163); `m` is below 0x4000. -/
def State.ammioRd (s : State) (m : Nat) (romvis : Bool) : Target :=
  if 0x3C00 ≤ m then s.videoTarget (m - 0x3C00)
  else if m = 0x37E8 then ⟨.printer, 0⟩
  else if 0x37E0 ≤ m ∧ m ≤ 0x37E3 then ⟨.intlatch, m % 4⟩
  else if 0x37EC ≤ m ∧ m ≤ 0x37EF then ⟨.fdc, m % 4⟩
  else if romvis = true ∧ m < s.romSize.val then ⟨.rom, m⟩
  else if 0x3800 ≤ m then ⟨.kbd, m - 0x3800⟩
  else .unmapped

/-- `AMMIO_WR(m)` (R164); `m` is below 0x4000. -/
def State.ammioWr (s : State) (m : Nat) : Target :=
  if 0x3C00 ≤ m then s.videoTarget (m - 0x3C00)
  else if m = 0x37E8 then ⟨.printer, 0⟩
  else if 0x37E0 ≤ m ∧ m ≤ 0x37E3 then ⟨.fdsel, m % 4⟩
  else if m = 0x37E4 then ⟨.cass, 0⟩
  else if 0x37EC ≤ m ∧ m ≤ 0x37EF then ⟨.fdc, m % 4⟩
  else .unmapped

/-- The 16 KiB block of R163 and R164, by direction. -/
def State.ammio (s : State) (m : Nat) (romvis : Bool) : Dir → Target
  | .rd => s.ammioRd m romvis
  | .wr => s.ammioWr m

/-- `ALIAS(a)` of sub-mode 6 (R171). -/
def State.mirror (s : State) (a : Nat) : Target :=
  if (s.aram a (a % 0x4000)).off < 0x4000 then .unmapped else s.aram a (a % 0x4000)

/-- Variant A, by sub-mode (R160, R165 to R172). -/
def State.routeA (s : State) (sub : BitVec 3) (a : Nat) (rw : Dir) : Target :=
  match sub.toNat with
  | 0 => if a < 0x4000 then s.ammio a true rw else s.aram a a
  | 1 => if 0xF7E0 ≤ a ∧ a ≤ 0xF7FF then s.ammio (a % 0x4000) false rw else s.aram a a
  | 2 => if 0x37E0 ≤ a ∧ a ≤ 0x3FFF then s.ammio a false rw else s.aram a a
  | 3 => if 0xF7E0 ≤ a then s.ammio (a % 0x4000) false rw else s.aram a a
  | 4 => s.aram a a
  | 5 => s.aram a a
  | 6 => if a < 0x4000 then s.ammio a true rw else if a < 0xC000 then s.aram a a else s.mirror a
  | _ => .unmapped

/-- A keyboard zone that starts `d` below the address: read-only (R62). -/
def kbdTarget (d : Nat) : Dir → Target
  | .rd => ⟨.kbd, d⟩
  | .wr => .unmapped

/-- A ROM address on a read; on a write no address decodes to ROM (R190). -/
def romTarget (a : Nat) : Dir → Target
  | .rd => ⟨.rom, a⟩
  | .wr => .unmapped

/-- The low block of modes 0x30 and 0x40, below 0x4000: tests 2 to 6 of R192 and R193. -/
def State.lowBlock (s : State) (a : Nat) (rw : Dir) : Target :=
  if a = 0x37E8 then ⟨.printer, 0⟩
  else if a < s.romSize.val then romTarget a rw
  else if 0x3C00 ≤ a then s.videoTarget (a - 0x3C00)
  else if 0x3800 ≤ a then kbdTarget (a - 0x3800) rw
  else .unmapped

/-- Variant B, mode 0x30 (R192). -/
def State.routeB (s : State) (a : Nat) (rw : Dir) : Target :=
  if 0x4000 ≤ a then ⟨.ram, a⟩ else s.lowBlock a rw

/-- `BANKED(a)` (R191): the RAM target of variants C and D. -/
def State.banked (s : State) (a : Nat) : Target :=
  ⟨.ram, a + (if upperHalf a then s.bank.bankOffset1 else s.bank.bankOffset0).toNat⟩

/-- Mode 0x40 (R193). -/
def State.routeMap0C (s : State) (a : Nat) (rw : Dir) : Target :=
  if 0x4000 ≤ a then s.banked a else s.lowBlock a rw

/-- Modes 0x50 and 0x54 (R195, R198). -/
def State.routeMap0D (s : State) (romin : Bool) (a : Nat) (rw : Dir) : Target :=
  if 0x4000 ≤ a then s.banked a
  else if a = 0x37E8 then ⟨.printer, 0⟩
  else if romin = true ∧ rw = .rd ∧ a < s.romSize.val then ⟨.rom, a⟩
  else if a < 0x3800 then (match rw with | .rd => s.banked a | .wr => .unmapped)
  else if 0x3C00 ≤ a then s.videoTarget (a - 0x3C00)
  else kbdTarget (a - 0x3800) rw

/-- Modes 0x41, 0x51 and 0x55 (R194). -/
def State.routeMap1 (s : State) (romin : Bool) (a : Nat) (rw : Dir) : Target :=
  if romin = true ∧ rw = .rd ∧ a < s.romSize.val then ⟨.rom, a⟩
  else if 0x4000 ≤ a ∨ a < 0x3800 then s.banked a
  else if 0x3C00 ≤ a then s.videoTarget (a - 0x3C00)
  else kbdTarget (a - 0x3800) rw

/-- Modes 0x42, 0x52 and 0x56 (R196). -/
def State.routeMap2 (s : State) (a : Nat) (rw : Dir) : Target :=
  if a < 0xF400 then s.banked a
  else if a < 0xF800 then kbdTarget (a - 0xF400) rw
  else if a < 0xFC00 then .unmapped
  else ⟨.video, a - 0xFC00⟩

/-- Variant C, by map (R193, R194, R196, R197). -/
def State.routeC (s : State) (map : BitVec 2) (a : Nat) (rw : Dir) : Target :=
  match map.toNat with
  | 0 => s.routeMap0C a rw
  | 1 => s.routeMap1 false a rw
  | 2 => s.routeMap2 a rw
  | _ => s.banked a

/-- Variant D, by `romin` and map (R194 to R197). -/
def State.routeD (s : State) (romin : Bool) (map : BitVec 2) (a : Nat) (rw : Dir) : Target :=
  match map.toNat with
  | 0 => s.routeMap0D romin a rw
  | 1 => s.routeMap1 romin a rw
  | 2 => s.routeMap2 a rw
  | _ => s.banked a

/-- `Decode(a, rw)` (R63) for a CPU address `a` in 0..0xFFFF. -/
def State.route (s : State) (a : Nat) (rw : Dir) : Target :=
  match s.mode with
  | .a sub => s.routeA sub a rw
  | .b => s.routeB a rw
  | .c map => s.routeC map a rw
  | .d romin map => s.routeD romin map a rw

end Sys2Proof.Machine
end

