-- ==== Sys2Proof/Machine/Ops.lean ====
section
/-! DEFINITION. The shared operations: byte stores, slots, events, peripherals, the bytes of the four storages, media
(46_drive_manager.md), the open step, locate, the bank-switch operations, the resets. The hardware takes no exception
and has no return from one (60_exceptions.md rules R340, R349), so no such operation stands here. -/

namespace Sys2Proof.Machine

/-! ### Byte stores -/

/-- The byte a store lists at `a`, if it lists one. -/
def Memory.lookup : Memory → Nat → Option Byte
  | [], _ => none
  | (k, w) :: m, a => if k = a then some w else Memory.lookup m a

/-- The store with `v` at `a`, its addresses still rising. -/
def Memory.store : Memory → Nat → Byte → Memory
  | [], a, v => [(a, v)]
  | (k, w) :: m, a, v =>
    if a < k then (a, v) :: (k, w) :: m
    else if a = k then (a, v) :: m
    else (k, w) :: Memory.store m a v

/-- Every address listed is at least `lo`, and they rise strictly. -/
def Memory.rising : Nat → Memory → Bool
  | _, [] => true
  | lo, (k, _) :: m => decide (lo ≤ k) && Memory.rising (k + 1) m

/-- The canonical form: strictly rising addresses. An unlisted address has no value, so no entry can equal what it
reads as. -/
def Memory.wf (m : Memory) : Bool := Memory.rising 0 m

/-- Every address listed is below `n`. -/
def Memory.below (m : Memory) (n : Nat) : Bool := m.all fun c => decide (c.1 < n)

/-! ### Slots -/

/-- The record of slot `d`. -/
def PerDrive.get {α : Type} (p : PerDrive α) : SlotId → α
  | .s0 => p.d0
  | .s1 => p.d1
  | .s2 => p.d2
  | .s3 => p.d3

/-- The records with slot `d` replaced. -/
def PerDrive.set {α : Type} (p : PerDrive α) (d : SlotId) (x : α) : PerDrive α :=
  match d with
  | .s0 => { p with d0 := x }
  | .s1 => { p with d1 := x }
  | .s2 => { p with d2 := x }
  | .s3 => { p with d3 := x }

/-- `drv[d]` replaced. -/
def State.setSlot (s : State) (d : SlotId) (x : Slot) : State := { s with drv := s.drv.set d x }

/-- `media[d]` replaced. -/
def State.setImage (s : State) (d : SlotId) (img : Image) : State := { s with media := s.media.set d (some img) }

/-- `drv[d].fpos` replaced. -/
def State.setFpos (s : State) (d : SlotId) (pos : Nat) : State :=
  s.setSlot d { s.drv.get d with fpos := pos }

/-! ### Results and events -/

/-- The operation completes with this result (R92). -/
def State.reply (s : State) (x : Answer) : State := { s with answer := x }

/-- One event more on the outputs, newest first. -/
def State.emit (s : State) (e : Event) : State := { s with events := e :: s.events }

/-- `diag(code)` (R345): emits one event; "never changes state" otherwise (R12). -/
def State.report (s : State) (c : DiagCode) : State := s.emit (.diag c)

/-- One free value more is drawn (log 6). -/
def State.draw (s : State) : State := { s with draws := s.draws + 1 }

/-- `Periph.read(region, off)` (R223): the byte is a free value; the peripheral is told of the read. -/
def State.periphRead (s : State) (r : Region) (off : Nat) : Byte × State :=
  (Config.periphByte r off s.draws, (s.draw).emit (.periphRead r off))

/-! ### The bytes of the storages -/

/-- `ram[off]` (R22). -/
def State.ramByte (s : State) (off : Nat) : Byte := (s.ram.lookup off).getD (Config.unwrittenByte .ram off)

/-- `rom[off]` (R23). -/
def State.romByte (s : State) (off : Nat) : Byte := (s.rom.lookup off).getD (Config.unwrittenByte .rom off)

/-- `video[off]` (R24). -/
def State.videoByte (s : State) (off : Nat) : Byte := (s.video.lookup off).getD (Config.unwrittenByte .video off)

/-- Byte `pos` of an image of slot `d` (R320). -/
def Image.byteAt (img : Image) (d : SlotId) (pos : Nat) : Byte :=
  (img.bytes.lookup pos).getD (Config.unwrittenByte (.image d) pos)

/-- `ram[off] <- v`. -/
def State.setRam (s : State) (off : Nat) (v : Byte) : State := { s with ram := s.ram.store off v }

/-- `video[off] <- v`. -/
def State.setVideo (s : State) (off : Nat) (v : Byte) : State := { s with video := s.video.store off v }

/-- A write to region VIDEO (R222): suppressed when the byte already holds `v`, else stored and notified once. -/
def State.videoWrite (s : State) (off : Nat) (v : Byte) : State :=
  if s.videoByte off = v then s else (s.setVideo off v).emit (.display off v)

/-- What a byte read of a target delivers (R220). FDSEL and CASS are never selected on a read (R62); with the other
peripherals they are handed over. -/
def State.readTarget (s : State) (t : Target) : Byte × State :=
  match t.region with
  | .none => (Config.sentinel, s)
  | .ram => (s.ramByte t.off, s)
  | .rom => (s.romByte t.off, s)
  | .video => (s.videoByte t.off, s)
  | .kbd | .printer | .intlatch | .fdsel | .cass | .fdc => s.periphRead t.region t.off

/-- What a byte write of a target does (R221). ROM, KBD and INTLATCH are never selected on a write (R62). -/
def State.writeTarget (s : State) (t : Target) (v : Byte) : State :=
  match t.region with
  | .none | .rom | .kbd | .intlatch => s
  | .ram => s.setRam t.off v
  | .video => s.videoWrite t.off v
  | .printer | .fdsel | .cass | .fdc => s.emit (.periphWrite t.region t.off v)

/-- `MemRead(a, 1)` (R12, R220). -/
def State.readByte (s : State) (a : Addr) : Byte × State := s.readTarget (s.route a.toNat .rd)

/-- `MemWrite(a, 1, v)` (R12, R221). -/
def State.writeByte (s : State) (a : Addr) (v : Byte) : State := s.writeTarget (s.route a.toNat .wr) v

/-- `MemRead(a, 2)` (R224): the low byte first, the address wrapping mod 0x10000. -/
def State.readWord (s : State) (a : Addr) : Addr × State :=
  let lo := s.readByte a
  let hi := lo.2.readByte (a + 1#16)
  (hi.1 ++ lo.1, hi.2)

/-- `MemWrite(a, 2, w)` (R225). -/
def State.writeWord (s : State) (a w : Addr) : State :=
  (s.writeByte a (w.extractLsb' 0 8)).writeByte (a + 1#16) (w.extractLsb' 8 8)

/-- A pointer of BLOCK stepped by `dir`, mod 0x10000 (R228). -/
def stepPointer (dir : Direction) (a : Addr) : Addr :=
  match dir with
  | .up => a + 1#16
  | .down => a - 1#16

/-- `n` iterations of BLOCK (R228): each byte is read and then written before the next; `last` is the byte of the
iteration before. -/
def State.moveBytes (dir : Direction) : Nat → State → (dst src : Addr) → (last : Byte) → Byte × State
  | 0, s, _, _, last => (last, s)
  | n + 1, s, dst, src, _ =>
    let r := s.readByte src
    State.moveBytes dir n (r.2.writeByte dst r.1) (stepPointer dir dst) (stepPointer dir src) r.1

/-- The iterations of BLOCK: a count of 0 means 65536 (R228, R79). -/
def blockCount (count : Addr) : Nat := if count = 0#16 then 65536 else count.toNat

/-! ### Views -/

/-- The hole of R230: sub-mode 0 with the selector card, the low 768 bytes of the keyboard zone. -/
def State.inHole (s : State) (a : Nat) : Bool :=
  decide (s.mode = .a 0#3) && s.straps.selectorEnabled && decide (0x3800 ≤ a) && decide (a ≤ 0x3AFF)

/-- `ViewTarget(a, rw)` (R226, R227); `none` is UNMAPPED. -/
def State.viewTarget (s : State) (a : Nat) (rw : Dir) : Option Target :=
  match rw with
  | .rd =>
    match (s.route a .rd).region with
    | .ram | .rom | .video => some (s.route a .rd)
    | .none | .kbd | .printer | .intlatch | .fdsel | .cass | .fdc => none
  | .wr =>
    if s.inHole a then some (s.aram a a)
    else
      match (s.route a .wr).region with
      | .ram => some (s.route a .wr)
      | .none | .rom | .video | .kbd | .printer | .intlatch | .fdsel | .cass | .fdc => none

/-- How many of the next `fuel` addresses from `a + i` on continue the view of `t` at `a` (R229). -/
def State.viewRun (s : State) (rw : Dir) (t : Target) (a : Nat) : (fuel i : Nat) → Nat
  | 0, _ => 0
  | fuel + 1, i =>
    if s.viewTarget (a + i) rw = some ⟨t.region, t.off + i⟩ then State.viewRun s rw t a fuel (i + 1) + 1 else 0

/-- `ViewLen(a, rw)` (R229) of the view of `t` at `a`: no view goes past 0xFFFF. -/
def State.viewLen (s : State) (rw : Dir) (t : Target) (a : Nat) : Nat := s.viewRun rw t a (0x10000 - a) 0

/-- The view accessor's result (R226, R227). -/
def State.view (s : State) (a : Nat) (rw : Dir) : Answer :=
  match s.viewTarget a rw with
  | some t => .view t.region t.off (s.viewLen rw t a)
  | none => .unmapped

/-! ### Bank switching -/

/-- `bank_offset[0]` by `BankTable(c, bank_base)` (R134). -/
def bankTable0 (c : BankCommand) (base : BankWord) : BankWord :=
  match c with
  | .c0 => 0#21
  | .c2 => 0#21
  | .c3 => 0#21
  | .c6 => base
  | .c7 => 0x8000#21 + base

/-- `bank_offset[1]` by `BankTable(c, bank_base)` (R134). -/
def bankTable1 (c : BankCommand) (base : BankWord) : BankWord :=
  match c with
  | .c0 => 0#21
  | .c2 => 0x8000#21
  | .c3 => 0x8000#21 + base
  | .c6 => 0#21
  | .c7 => 0#21

/-- The bank state replaced. -/
def State.setBank (s : State) (b : Bank) : State := { s with bank := b }

/-- A legal banking command (R133). -/
def State.selectBank (s : State) (c : BankCommand) : State :=
  s.setBank
    { s.bank with
      lastCmd := c, bankOffset0 := bankTable0 c s.bank.bankBase, bankOffset1 := bankTable1 c s.bank.bankBase }

/-- BANK_CMD (R133, R135): an illegal command is reported and changes nothing. -/
def State.bankCommand (s : State) (c : Byte) : State :=
  match bankCommandOf c with
  | some k => s.selectBank k
  | none => s.report .cfgBankCmd

/-- SET_ROMIN (R131). -/
def State.setRominOp (s : State) (b : Bool) : State :=
  match s.model with
  | .d => s.setBank { s.bank with romin := b }
  | .a | .b | .c => s

/-- MAP_SEL (R132). -/
def State.mapSelect (s : State) (n : BitVec 2) : State :=
  match s.model with
  | .c | .d => s.setBank { s.bank with mapSel := n }
  | .a | .b => s

/-- VIDEO_PAGE (R144): sets the page, does not flip it (90_conflicts.md C4). -/
def State.setVideoPage (s : State) (w : Bool) : State :=
  s.setBank { s.bank with videoPage := if w then .page1 else .page0 }

/-- EXP_WR (R136): with Huffman the base is written and the last command re-applied (R137), with Supermem the base is
written (R138), else nothing. -/
def State.expansionWrite (s : State) (v : Byte) : State :=
  if s.straps.huffmanRam then
    s.setBank
      { s.bank with
        bankBase := huffmanBase v,
        bankOffset0 := bankTable0 s.bank.lastCmd (huffmanBase v),
        bankOffset1 := bankTable1 s.bank.lastCmd (huffmanBase v) }
  else if s.straps.supermem then s.setBank { s.bank with bankBase := supermemBase v }
  else s

/-- EXP_RD (R139): the bits of the base that the fitted expansion writes, else 0xFF. -/
def State.expansionByte (s : State) : Byte :=
  if s.straps.huffmanRam then (s.bank.bankBase.extractLsb' 16 5).zeroExtend 8
  else if s.straps.supermem then (s.bank.bankBase.extractLsb' 15 4).zeroExtend 8
  else 0xFF#8

/-- The selector port exists: variant A with the card fitted (R141, R104). -/
def State.hasSelector (s : State) : Bool := decide (s.model = .a) && s.straps.selectorEnabled

/-- SEL_WR (R141). -/
def State.selectorWrite (s : State) (v : Byte) : State :=
  if s.hasSelector then s.setBank { s.bank with selectorReg := v, bankBase := selectorBase v } else s

/-- The BANKREG composite (R100, R146): VIDEO_PAGE, BANK_CMD, MAP_SEL in this order. -/
def State.bankregWrite (s : State) (v : Byte) : State :=
  ((s.setVideoPage (bankregPage v)).bankCommand (bankregCommand v)).mapSelect (bankregMap v)

/-- ROMLD (R145). -/
def State.loadRom (s : State) (a : Addr) (v : Byte) : State :=
  if h : a.toNat < Config.romMax then
    { s with rom := s.rom.store a.toNat v, romSize := ⟨max s.romSize.val (a.toNat + 1), by omega⟩ }
  else s.report .cfgRomRange

/-! ### Resets -/

/-- The MEMDEC part of RESET (R49, R370). -/
def State.resetMemdec (s : State) : State :=
  s.setBank
    { mapSel := 0#2, romin := decide (s.model = .d), selectorReg := 0x00#8, bankOffset0 := 0#21, bankOffset1 := 0#21,
      bankBase := if s.model = .c ∨ s.model = .d then 0x10000#21 else 0#21, lastCmd := .c0, videoPage := .page0 }

/-- The HDC part of RESET, which is also the soft reset (R50, R370, R373): registers 0, slots closed and zeroed, no
flush (R328). -/
def State.resetHdc (s : State) : State :=
  { s with
    hdc :=
      { control := 0x00#8, data := 0x00#8, error := 0x00#8, seccnt := 0x00#8, secnum := 0x00#8, status := 0x00#8,
        command := 0x00#8, cyl := 0x0000#16, drive := 0#3, head := 0#4, bytesdone := 0 }
    drv := { d0 := .closed, d1 := .closed, d2 := .closed, d3 := .closed } }

/-- SET_MODEL with a legal id (R130): the MEMDEC part of RESET with the new model. -/
def State.changeModel (s : State) (m : Model) : State := State.resetMemdec { s with model := m }

/-! ### Media -/

/-- `IoFault(d, kind, pos)` (R329). -/
def State.ioFault (s : State) (d : SlotId) (op : MediaOp) (pos : Nat) : Bool :=
  decide (IoFaultAt.mk d op pos ∈ s.ioFaults)

/-- A read of byte `pos` of an open slot's image would not FAIL (R321). -/
def State.imageReadable (s : State) (d : SlotId) (img : Image) (pos : Nat) : Bool :=
  decide (pos < img.len) && !s.ioFault d .read pos

/-- `MediaRead(d, pos)` (R321); `none` is FAIL. -/
def State.mediaRead (s : State) (d : SlotId) (pos : Nat) : Option Byte :=
  if (s.drv.get d).isOpen then
    match s.media.get d with
    | none => none
    | some img => if s.imageReadable d img pos then some (img.byteAt d pos) else none
  else none

/-- An image with `v` at `pos`, extended when `pos` lies beyond its end (R322). -/
def Image.put (img : Image) (pos : Nat) (v : Byte) : Image :=
  { img with len := max img.len (pos + 1), bytes := img.bytes.store pos v }

/-- `MediaWrite(d, pos, v)` (R322): whether it answered OK, and the state after; a write that FAILs stores nothing. -/
def State.mediaWrite (s : State) (d : SlotId) (pos : Nat) (v : Byte) : Bool × State :=
  if (s.drv.get d).isOpen then
    match s.media.get d with
    | none => (false, s)
    | some img =>
      if img.access = .ro then (false, s)
      else if s.ioFault d .write pos then (false, s)
      else (true, s.setImage d (img.put pos v))
  else (false, s)

/-- `MediaFlush(d)` answers OK (R323). -/
def State.mediaFlush (s : State) (d : SlotId) : Bool := (s.drv.get d).isOpen && !s.ioFault d .flush 0

/-! ### The open step -/

/-- `HeaderValid(hdr)` (R325). -/
def headerValid (magic0 magic1 version : Byte) : Bool :=
  decide (magic0 = 0x56#8) && decide (magic1 = 0xCB#8) && decide (version = 0x10#8)

/-- `cylinders` of `Geometry(hdr)`: 0 means 256 (R326). -/
def headerCylinders (field : Byte) : Nat := if field = 0#8 then Config.defaultCyls else field.toNat

/-- `heads` of `Geometry(hdr)`, or `none` for REJECT (R326). -/
def headerHeads (spt : Nat) (field : Byte) : Option Nat :=
  let q := field.toNat / spt
  if field.toNat % spt ≠ 0 ∨ q < 1 ∨ Config.maxHeads < q then none else some q

/-- The record of a slot that opens on `img` (R324), when the geometry gives `heads`. -/
def openedSlot (spt : Nat) (d : SlotId) (img : Image) (heads : Nat) : Slot :=
  { isOpen := true
    writeprot := decide (img.access = .ro) || (img.byteAt d 7).getLsbD 7
    cylinders := headerCylinders (img.byteAt d 28)
    heads := heads
    sectorsPerTrack := spt
    fpos := Config.headerSize }

/-- Every one of the first `HEADER_SIZE` bytes can be fetched (R324). -/
def State.headerReadable (s : State) (d : SlotId) (img : Image) : Bool :=
  (List.range Config.headerSize).all fun pos => s.imageReadable d img pos

/-- The register effect of every failed open (R327). -/
def State.openFail (s : State) (d : SlotId) : State := (s.setSlot d .closed).setError errNotFound

/-- `Open(d)` (R324): whether it succeeds, and the state after. -/
def State.openSlot (s : State) (d : SlotId) : Bool × State :=
  if (s.drv.get d).isOpen then (true, s)
  else
    match s.media.get d with
    | none => (false, s.openFail d)
    | some img =>
      if s.headerReadable d img && headerValid (img.byteAt d 0) (img.byteAt d 1) (img.byteAt d 2) then
        match headerHeads s.straps.sectorsPerTrack (img.byteAt d 29) with
        | none => (false, (s.report .cfgBadGeometry).openFail d)
        | some heads => (true, s.setSlot d (openedSlot s.straps.sectorsPerTrack d img heads))
      else (false, (s.report .cfgBadHeader).openFail d)

/-! ### Locate -/

/-- `SectorPos(d)` (R292): on naturals, never reduced. -/
def sectorPos (cyl head secnum heads spt : Nat) : Nat :=
  Config.headerSize + Config.sectorSize * (cyl * heads * spt + head * spt + secnum)

/-- The head and the sector number are in range of an open slot; the cylinder is not checked (R291). -/
def State.sectorInRange (s : State) (x : Slot) : Bool :=
  decide (s.hdc.head.toNat < x.heads) && decide (s.hdc.secnum.toNat < x.sectorsPerTrack)

/-- `Locate()` on slot `d` (R290): whether it succeeds, and the state after. -/
def State.locate (s : State) (d : SlotId) : Bool × State :=
  let o := s.openSlot d
  if o.1 then
    let x := o.2.drv.get d
    if o.2.sectorInRange x then
      (true,
        o.2.setFpos d
          (sectorPos o.2.hdc.cyl.toNat o.2.hdc.head.toNat o.2.hdc.secnum.toNat x.heads x.sectorsPerTrack))
    else (false, o.2.setError errNotFound)
  else (false, o.2)

/-! ### The controller's commands -/

/-- The assignments every COMMAND write makes first (R280). -/
def State.startCommand (s : State) (v : Byte) : State :=
  { s with hdc := { s.hdc with bytesdone := 0, command := v } }

/-- The effect of an operation that uses the selected slot; a drive register of 4..7 names none (log 12). -/
def State.onSelectedSlot (s : State) (k : SlotId → State) : Host.Outcome State Fault Refusal :=
  match slotOfDrive s.hdc.drive with
  | some d => .next ((k d).reply .nothing)
  | none => .fault (.noSuchSlot s.hdc.drive)

/-- `if Locate(): <done>` on slot `d` (R283, R285, R286, R289). -/
def State.locateThen (s : State) (done : State → State) (d : SlotId) : State :=
  let l := s.locate d
  if l.1 then done l.2 else l.2

/-- RESTORE (R282). -/
def State.cmdRestore (s : State) (v : Byte) : Host.Outcome State Fault Refusal :=
  let c := s.startCommand v
  .next ((State.setReady { c with hdc := { c.hdc with cyl := 0x0000#16 } }).reply .nothing)

/-- READ and WRITE without the DMA flag (R283, R285). -/
def State.cmdTransfer (s : State) (v : Byte) : Host.Outcome State Fault Refusal :=
  (s.startCommand v).onSelectedSlot ((s.startCommand v).locateThen State.setReadyDrq)

/-- READ and WRITE with the DMA flag (R284). -/
def State.cmdDma (s : State) (v : Byte) : Host.Outcome State Fault Refusal :=
  .next ((((s.startCommand v).report .protoDma).setError errAbort).reply .nothing)

/-- VERIFY and SEEK (R286, R289). -/
def State.cmdLocate (s : State) (v : Byte) : Host.Outcome State Fault Refusal :=
  (s.startCommand v).onSelectedSlot ((s.startCommand v).locateThen State.setReady)

/-- FORMAT's parameters are the protocol constants (R287). -/
def State.formatParamsOk (s : State) : Bool :=
  decide (s.hdc.seccnt.toNat = s.straps.sectorsPerTrack) && decide (s.hdc.secnum = Config.formatSizeCode)

/-- FORMAT (R287). -/
def State.cmdFormat (s : State) (v : Byte) : Host.Outcome State Fault Refusal :=
  let c := s.startCommand v
  .next (((if c.formatParamsOk then c else c.report .cfgFormatParams).setReady).reply .nothing)

/-- INIT (R288). -/
def State.cmdInit (s : State) (v : Byte) : Host.Outcome State Fault Refusal :=
  .next ((((s.startCommand v).report .protoInit).setReady).reply .nothing)

/-- An unknown opcode (R298). -/
def State.cmdUnknown (s : State) (v : Byte) : Host.Outcome State Fault Refusal :=
  .next (((s.startCommand v).report .protoUnknownCmd).reply .nothing)

/-- The COMMAND write's dispatch on `v[7:4]` (R280). -/
def State.runCommand (s : State) (v : Byte) : Host.Outcome State Fault Refusal :=
  match (commandOpcode v).toNat with
  | 1 => s.cmdRestore v
  | 2 => if commandDma v then s.cmdDma v else s.cmdTransfer v
  | 3 => if commandDma v then s.cmdDma v else s.cmdTransfer v
  | 4 => s.cmdLocate v
  | 5 => s.cmdFormat v
  | 6 => s.cmdInit v
  | 7 => s.cmdLocate v
  | _ => s.cmdUnknown v

/-! ### The data port -/

/-- A READ is active, has no error pending and is not done: the test of R293. -/
def State.fetching (s : State) : Bool :=
  decide (commandOpcode s.hdc.command = 2#4) && !s.errPending && decide (s.hdc.bytesdone < Config.sectorSize)

/-- A WRITE is active and not done: the test of R295; it does not look at ERR (R384). -/
def State.storing (s : State) : Bool :=
  decide (commandOpcode s.hdc.command = 3#4) && decide (s.hdc.bytesdone < Config.sectorSize)

/-- One byte of progress on slot `d`: `fpos` of an open slot and `bytesdone` advance (R293, R295, R300). -/
def State.advance (s : State) (d : SlotId) : State :=
  let t := if (s.drv.get d).isOpen then s.setFpos d ((s.drv.get d).fpos + 1) else s
  { t with hdc := { t.hdc with bytesdone := t.hdc.bytesdone + 1 } }

/-- `hdc.data <- v`. -/
def State.setData (s : State) (v : Byte) : State := { s with hdc := { s.hdc with data := v } }

/-- The fetch of R293 on slot `d`: a FAIL delivers a free value and no error (log 7). -/
def State.fetchData (s : State) (d : SlotId) : State :=
  match s.mediaRead d (s.drv.get d).fpos with
  | some b => (s.setData b).advance d
  | none => ((s.setData (Config.failedFetchByte s.draws)).draw).advance d

/-- IORD DATA (R254, R293, R294). -/
def State.readData (s : State) : Host.Outcome State Fault Refusal :=
  if s.fetching then
    match slotOfDrive s.hdc.drive with
    | some d => .next ((s.fetchData d).reply (.byte (s.fetchData d).hdc.data))
    | none => .fault (.noSuchSlot s.hdc.drive)
  else .next (s.reply (.byte s.hdc.data))

/-- The precondition of the directory-cylinder quirk (R297). -/
def State.quirkApplies (s : State) : Bool :=
  decide (s.hdc.cyl = 0#16) && decide (s.hdc.head = 0#4) && decide (s.hdc.secnum = 0#8)
    && decide (s.hdc.bytesdone = 2)

/-- The copy of the quirk (R297): to `DIRCYL_OFF` of the selected drive, `fpos` unchanged. -/
def State.quirkWrite (s : State) (d : SlotId) (v : Byte) : Bool × State :=
  if s.quirkApplies then s.mediaWrite d Config.dircylOff v else (true, s)

/-- The store of R295 on slot `d`, after `hdc.data <- v`: the copy, the byte, the progress, the flush at 256, and one
`SetError(ERR_DATA)` if any of them failed (R296, R348). -/
def State.storeData (s : State) (d : SlotId) (v : Byte) : State :=
  let q := s.quirkWrite d v
  let w := q.2.mediaWrite d (q.2.drv.get d).fpos v
  let t := w.2.advance d
  let flushed := if t.hdc.bytesdone = Config.sectorSize then t.mediaFlush d else true
  if q.1 && w.1 && flushed then t else t.setError errData

/-- IOWR DATA (R255, R295). -/
def State.writeData (s : State) (v : Byte) : Host.Outcome State Fault Refusal :=
  let t := s.setData v
  if s.storing then t.onSelectedSlot fun d => t.storeData d v else .next (t.reply .nothing)

/-! ### The other HDC ports -/

/-- The bit of a slot in the WP port's value: `0x80 >> d` (R108, R251). -/
def wpBit : SlotId → Byte
  | .s0 => 0x80#8
  | .s1 => 0x40#8
  | .s2 => 0x20#8
  | .s3 => 0x10#8

/-- One turn of the WP port's loop (R251): `Open(d)`, then the slot's bit. -/
def wpStep (acc : Byte × State) (d : SlotId) : Byte × State :=
  let t := (acc.2.openSlot d).2
  (if (t.drv.get d).writeprot then acc.1 ||| wpBit d else acc.1, t)

/-- IORD WP (R251). -/
def State.readWp (s : State) : Byte × State := [SlotId.s0, .s1, .s2, .s3].foldl wpStep (0x00#8, s)

/-- IOWR CONTROL (R252): the reset first, then the store. -/
def State.writeControl (s : State) (v : Byte) : State :=
  let t := if controlSoftReset v then s.resetHdc else s
  { t with hdc := { t.hdc with control := v } }

/-- IOWR SDH (R261): non-zero size bits are reported and the fields taken all the same. -/
def State.writeSdh (s : State) (v : Byte) : State :=
  let t := if sdhSize v = 0#2 then s else s.report .cfgSizeBits
  { t with hdc := { t.hdc with drive := sdhDrive v, head := sdhHead v } }

/-- IOWR SECCNT (R257). -/
def State.writeSeccnt (s : State) (v : Byte) : State := { s with hdc := { s.hdc with seccnt := v } }

/-- IOWR SECNUM (R258). -/
def State.writeSecnum (s : State) (v : Byte) : State := { s with hdc := { s.hdc with secnum := v } }

/-- IOWR CYLLO (R259). -/
def State.writeCyllo (s : State) (v : Byte) : State :=
  { s with hdc := { s.hdc with cyl := s.hdc.cyl.extractLsb' 8 8 ++ v } }

/-- IOWR CYLHI (R260). -/
def State.writeCylhi (s : State) (v : Byte) : State :=
  { s with hdc := { s.hdc with cyl := v ++ s.hdc.cyl.extractLsb' 0 8 } }

/-! ### Port cycles -/

/-- A read that has a result and no side effect. -/
def State.answerByte (s : State) (v : Byte) : Host.Outcome State Fault Refusal := .next (s.reply (.byte v))

/-- An operation without a result. -/
def State.done (s : State) : Host.Outcome State Fault Refusal := .next (s.reply .nothing)

/-- IORD `p` (R231): the MEMDEC ports of the configuration, the HDC ports (R250), else "not mine". -/
def State.portRead (s : State) (p : Byte) : Host.Outcome State Fault Refusal :=
  if p = 0x43#8 ∧ s.model = .a then s.answerByte s.expansionByte
  else if p = 0x94#8 ∧ (s.model = .c ∨ s.model = .d) then s.answerByte s.expansionByte
  else if p = 0xC0#8 then s.readWp.2.answerByte s.readWp.1
  else if p = 0xC1#8 then s.answerByte s.hdc.control
  else if p = 0xC8#8 then s.readData
  else if p = 0xC9#8 then s.answerByte s.hdc.error
  else if p = 0xCA#8 then s.answerByte s.hdc.seccnt
  else if p = 0xCB#8 then s.answerByte s.hdc.secnum
  else if p = 0xCC#8 then s.answerByte (s.hdc.cyl.extractLsb' 0 8)
  else if p = 0xCD#8 then s.answerByte (s.hdc.cyl.extractLsb' 8 8)
  else if p = 0xCE#8 then s.answerByte (sdhByte s.hdc.drive s.hdc.head)
  else if p = 0xCF#8 then s.answerByte s.hdc.status
  else .next (s.reply .notMine)

/-- IOWR `p`, `v` (R232): the MEMDEC ports of the configuration (R146), the HDC ports (R250), else ignored. -/
def State.portWrite (s : State) (p v : Byte) : Host.Outcome State Fault Refusal :=
  if p = 0x1F#8 ∧ s.hasSelector = true then (s.selectorWrite v).done
  else if p = 0x43#8 ∧ s.model = .a then (s.expansionWrite v).done
  else if p = 0x84#8 ∧ (s.model = .c ∨ s.model = .d) then (s.bankregWrite v).done
  else if p = 0x94#8 ∧ (s.model = .c ∨ s.model = .d) then (s.expansionWrite v).done
  else if p = 0x9C#8 ∧ s.model = .d then (s.setRominOp (romctlRomin v)).done
  else if p = 0xC1#8 then (s.writeControl v).done
  else if p = 0xC8#8 then s.writeData v
  else if p = 0xCA#8 then (s.writeSeccnt v).done
  else if p = 0xCB#8 then (s.writeSecnum v).done
  else if p = 0xCC#8 then (s.writeCyllo v).done
  else if p = 0xCD#8 then (s.writeCylhi v).done
  else if p = 0xCE#8 then (s.writeSdh v).done
  else if p = 0xCF#8 then s.runCommand v
  else s.done

/-! ### Fetching -/

/-- The next request the platform has issued, and the state with it taken (R90; log 1). -/
def State.fetch (s : State) : Option (Request × State) :=
  match s.pending with
  | [] => none
  | r :: rest => some (r, { s with pending := rest })

end Sys2Proof.Machine
end

