-- ==== Sys2Proof/Machine/BankSwitch.lean ====
section
/-! DEFINITION. Mode selection, bank switching, ROM loading and RESET: the side-band operations (40_bank_switch.md, 70_reset_and_hazards.md),
and the banking commands presented as bytes. -/

namespace Sys2Proof.Machine

/-- RESET (R370): both blocks; straps, storages and images are kept. -/
def execReset (s : State) : Host.Outcome State Fault Refusal :=
  s.resetMemdec.resetHdc.done

/-- SET_MODEL (R130): an illegal id is reported; a model the straps do not suit is refused (R8). -/
def execSetModel (m : Byte) (s : State) : Host.Outcome State Fault Refusal :=
  match modelOfId m with
  | none => (s.report .cfgModel).done
  | some k => if legalConfiguration k s.straps then (s.changeModel k).done else .refused .illegalConfiguration

/-- SET_ROMIN (R131). -/
def execSetRomin (b : Bool) (s : State) : Host.Outcome State Fault Refusal :=
  (s.setRominOp b).done

/-- MAP_SEL (R132). -/
def execMapSel (n : BitVec 2) (s : State) : Host.Outcome State Fault Refusal :=
  (s.mapSelect n).done

/-- BANK_CMD (R133, R135). -/
def execBankCmd (c : Byte) (s : State) : Host.Outcome State Fault Refusal :=
  (s.bankCommand c).done

/-- VIDEO_PAGE (R144). -/
def execVideoPage (w : Bool) (s : State) : Host.Outcome State Fault Refusal :=
  (s.setVideoPage w).done

/-- EXP_WR (R136, R137, R138). -/
def execExpWr (v : Byte) (s : State) : Host.Outcome State Fault Refusal :=
  (s.expansionWrite v).done

/-- EXP_RD (R139). -/
def execExpRd (s : State) : Host.Outcome State Fault Refusal :=
  s.answerByte s.expansionByte

/-- SEL_WR (R141). -/
def execSelWr (v : Byte) (s : State) : Host.Outcome State Fault Refusal :=
  (s.selectorWrite v).done

/-- ROMLD (R145). -/
def execRomld (a : Addr) (v : Byte) (s : State) : Host.Outcome State Fault Refusal :=
  (s.loadRom a v).done

/-- BANK_0 (R134). -/
def execBank0 (s : State) : Host.Outcome State Fault Refusal :=
  (s.bankCommand 0#8).done

/-- BANK_2 (R134). -/
def execBank2 (s : State) : Host.Outcome State Fault Refusal :=
  (s.bankCommand 2#8).done

/-- BANK_3 (R134). -/
def execBank3 (s : State) : Host.Outcome State Fault Refusal :=
  (s.bankCommand 3#8).done

/-- BANK_6 (R134). -/
def execBank6 (s : State) : Host.Outcome State Fault Refusal :=
  (s.bankCommand 6#8).done

/-- BANK_7 (R134). -/
def execBank7 (s : State) : Host.Outcome State Fault Refusal :=
  (s.bankCommand 7#8).done

/-- BANK_ILLEGAL (R135). -/
def execBankIllegal (c : Byte) (s : State) : Host.Outcome State Fault Refusal :=
  (s.bankCommand c).done

end Sys2Proof.Machine
end

