-- ==== Sys2Proof/Machine/Bus.lean ====
section
/-! DEFINITION. Bus operations: MEMRD, MEMWR, the words, the views and BLOCK (43_bus_operations.md). -/

namespace Sys2Proof.Machine

/-- MEMRD (R220). -/
def execMemrd (a : Addr) (s : State) : Host.Outcome State Fault Refusal :=
  (s.readByte a).2.answerByte (s.readByte a).1

/-- MEMWR (R221, R222). -/
def execMemwr (a : Addr) (v : Byte) (s : State) : Host.Outcome State Fault Refusal :=
  (s.writeByte a v).done

/-- WORDRD (R224). -/
def execWordrd (a : Addr) (s : State) : Host.Outcome State Fault Refusal :=
  .next ((s.readWord a).2.reply (.word (s.readWord a).1))

/-- WORDWR (R225). -/
def execWordwr (a w : Addr) (s : State) : Host.Outcome State Fault Refusal :=
  (s.writeWord a w).done

/-- VIEWRD (R226): changes nothing and calls nothing. -/
def execViewrd (a : Addr) (s : State) : Host.Outcome State Fault Refusal :=
  .next (s.reply (s.view a.toNat .rd))

/-- VIEWWR (R227, R230): changes nothing and calls nothing. -/
def execViewwr (a : Addr) (s : State) : Host.Outcome State Fault Refusal :=
  .next (s.reply (s.view a.toNat .wr))

/-- BLOCK (R228): returns the byte of the last iteration. -/
def execBlock (dst src count : Addr) (dir : Direction) (s : State) : Host.Outcome State Fault Refusal :=
  let r := State.moveBytes dir (blockCount count) s dst src 0#8
  r.2.answerByte r.1

end Sys2Proof.Machine
end

