-- ==== Sys2Proof/Machine/HdcCommands.lean ====
section
/-! DEFINITION. The controller commands, one meaning per row (45_hdc_commands.md). The command byte is rebuilt whole, since
`hdc.command` stores it (R41). -/

namespace Sys2Proof.Machine

/-- RESTORE (R282). -/
def execRestore (low : BitVec 4) (s : State) : Host.Outcome State Fault Refusal :=
  s.cmdRestore (1#4 ++ low)

/-- READ (R283). -/
def execRead (low : BitVec 3) (s : State) : Host.Outcome State Fault Refusal :=
  s.cmdTransfer (2#4 ++ 0#1 ++ low)

/-- READ_DMA (R284). -/
def execReadDma (low : BitVec 3) (s : State) : Host.Outcome State Fault Refusal :=
  s.cmdDma (2#4 ++ 1#1 ++ low)

/-- WRITE (R285). -/
def execWrite (low : BitVec 3) (s : State) : Host.Outcome State Fault Refusal :=
  s.cmdTransfer (3#4 ++ 0#1 ++ low)

/-- WRITE_DMA (R284). -/
def execWriteDma (low : BitVec 3) (s : State) : Host.Outcome State Fault Refusal :=
  s.cmdDma (3#4 ++ 1#1 ++ low)

/-- VERIFY (R286). -/
def execVerify (low : BitVec 4) (s : State) : Host.Outcome State Fault Refusal :=
  s.cmdLocate (4#4 ++ low)

/-- FORMAT (R287). -/
def execFormat (low : BitVec 4) (s : State) : Host.Outcome State Fault Refusal :=
  s.cmdFormat (5#4 ++ low)

/-- INIT (R288). -/
def execInit (low : BitVec 4) (s : State) : Host.Outcome State Fault Refusal :=
  s.cmdInit (6#4 ++ low)

/-- SEEK (R289). -/
def execSeek (low : BitVec 4) (s : State) : Host.Outcome State Fault Refusal :=
  s.cmdLocate (7#4 ++ low)

/-- UNKNOWN_0 (R298). -/
def execUnknown0 (low : BitVec 4) (s : State) : Host.Outcome State Fault Refusal :=
  s.cmdUnknown (0#4 ++ low)

/-- UNKNOWN_8_F (R298). -/
def execUnknown8F (low : BitVec 7) (s : State) : Host.Outcome State Fault Refusal :=
  s.cmdUnknown (1#1 ++ low)

end Sys2Proof.Machine
end

