-- ==== Sys2Proof/Machine/HdcPorts.lean ====
section
/-! DEFINITION. The HDC register file through its ports (44_hdc_registers.md). -/

namespace Sys2Proof.Machine

/-- IORD_WP (R251). -/
def execIordWp (s : State) : Host.Outcome State Fault Refusal :=
  s.readWp.2.answerByte s.readWp.1

/-- IOWR_WP (R263): ignored. -/
def execIowrWp (_v : Byte) (s : State) : Host.Outcome State Fault Refusal :=
  s.done

/-- IORD_CONTROL (R253). -/
def execIordControl (s : State) : Host.Outcome State Fault Refusal :=
  s.answerByte s.hdc.control

/-- IOWR_CONTROL (R252). -/
def execIowrControl (v : Byte) (s : State) : Host.Outcome State Fault Refusal :=
  (s.writeControl v).done

/-- IORD_DATA (R254, R293, R294). -/
def execIordData (s : State) : Host.Outcome State Fault Refusal :=
  s.readData

/-- IOWR_DATA (R255, R295 to R297). -/
def execIowrData (v : Byte) (s : State) : Host.Outcome State Fault Refusal :=
  s.writeData v

/-- IORD_ERROR (R256). -/
def execIordError (s : State) : Host.Outcome State Fault Refusal :=
  s.answerByte s.hdc.error

/-- IOWR_PRECOMP (R256): ignored. -/
def execIowrPrecomp (_v : Byte) (s : State) : Host.Outcome State Fault Refusal :=
  s.done

/-- IORD_SECCNT (R257). -/
def execIordSeccnt (s : State) : Host.Outcome State Fault Refusal :=
  s.answerByte s.hdc.seccnt

/-- IOWR_SECCNT (R257). -/
def execIowrSeccnt (v : Byte) (s : State) : Host.Outcome State Fault Refusal :=
  (s.writeSeccnt v).done

/-- IORD_SECNUM (R258). -/
def execIordSecnum (s : State) : Host.Outcome State Fault Refusal :=
  s.answerByte s.hdc.secnum

/-- IOWR_SECNUM (R258). -/
def execIowrSecnum (v : Byte) (s : State) : Host.Outcome State Fault Refusal :=
  (s.writeSecnum v).done

/-- IORD_CYLLO (R259). -/
def execIordCyllo (s : State) : Host.Outcome State Fault Refusal :=
  s.answerByte (s.hdc.cyl.extractLsb' 0 8)

/-- IOWR_CYLLO (R259). -/
def execIowrCyllo (v : Byte) (s : State) : Host.Outcome State Fault Refusal :=
  (s.writeCyllo v).done

/-- IORD_CYLHI (R260). -/
def execIordCylhi (s : State) : Host.Outcome State Fault Refusal :=
  s.answerByte (s.hdc.cyl.extractLsb' 8 8)

/-- IOWR_CYLHI (R260). -/
def execIowrCylhi (v : Byte) (s : State) : Host.Outcome State Fault Refusal :=
  (s.writeCylhi v).done

/-- IORD_SDH (R261). -/
def execIordSdh (s : State) : Host.Outcome State Fault Refusal :=
  s.answerByte (sdhByte s.hdc.drive s.hdc.head)

/-- IOWR_SDH (R261). -/
def execIowrSdh (v : Byte) (s : State) : Host.Outcome State Fault Refusal :=
  (s.writeSdh v).done

/-- IORD_STATUS (R262). -/
def execIordStatus (s : State) : Host.Outcome State Fault Refusal :=
  s.answerByte s.hdc.status

/-- IOWR_COMMAND (R262, R280). -/
def execIowrCommand (v : Byte) (s : State) : Host.Outcome State Fault Refusal :=
  s.runCommand v

end Sys2Proof.Machine
end

