-- ==== Sys2Proof/Machine/Ports.lean ====
section
/-! DEFINITION. The port cycles: the generic rows (R231, R232) and the MEMDEC ports (R104, R146). -/

namespace Sys2Proof.Machine

/-- IORD (R231). -/
def execIord (p : Byte) (s : State) : Host.Outcome State Fault Refusal :=
  s.portRead p

/-- IOWR (R232). -/
def execIowr (p v : Byte) (s : State) : Host.Outcome State Fault Refusal :=
  s.portWrite p v

/-- IOWR_SELECTOR, port 0x1F (R146): ignored without the card. -/
def execIowrSelector (v : Byte) (s : State) : Host.Outcome State Fault Refusal :=
  s.portWrite 0x1F#8 v

/-- IOWR_EXPANSION_A, port 0x43 (R146): variant A only. -/
def execIowrExpansionA (v : Byte) (s : State) : Host.Outcome State Fault Refusal :=
  s.portWrite 0x43#8 v

/-- IORD_EXPANSION_A, port 0x43 (R146): variant A only. -/
def execIordExpansionA (s : State) : Host.Outcome State Fault Refusal :=
  s.portRead 0x43#8

/-- IOWR_BANKREG, port 0x84 (R146, R103): variants C and D only. -/
def execIowrBankreg (v : Byte) (s : State) : Host.Outcome State Fault Refusal :=
  s.portWrite 0x84#8 v

/-- IOWR_EXPANSION_CD, port 0x94 (R146): variants C and D only. -/
def execIowrExpansionCd (v : Byte) (s : State) : Host.Outcome State Fault Refusal :=
  s.portWrite 0x94#8 v

/-- IORD_EXPANSION_CD, port 0x94 (R146): variants C and D only. -/
def execIordExpansionCd (s : State) : Host.Outcome State Fault Refusal :=
  s.portRead 0x94#8

/-- IOWR_ROMCTL, port 0x9C (R146, R105): variant D only. -/
def execIowrRomctl (v : Byte) (s : State) : Host.Outcome State Fault Refusal :=
  s.portWrite 0x9C#8 v

end Sys2Proof.Machine
end

