-- ==== Sys2Proof/Machine/Reserved.lean ====
section
/-! DEFINITION. The reserved transaction words, which the spec has the model refuse (R92, R94, R97, R116; U7). -/

namespace Sys2Proof.Machine

/-- RESERVED_KIND_8_15: "refused: the model gives the word no meaning" (R92). -/
def execReservedKind (_rest : BitVec 27) (_s : State) : Host.Outcome State Fault Refusal :=
  .refused .reservedKind

/-- RESERVED_SB: "A word with `addr[7:0] ≠ 0` is refused" (R97); the numbers 0x09..0xFF are too (R94). -/
def execReservedSb (_number _zero _data : Byte) (_s : State) : Host.Outcome State Fault Refusal :=
  .refused .reservedSideBand

end Sys2Proof.Machine
end

