-- ==== Sys2Proof/Machine/Dispatch.lean ====
section
/-! DEFINITION. The dispatch of an operation to its meaning, one arm per constructor. -/

namespace Sys2Proof.Machine
open Sys2Proof

def exec (i : Instr) (s : State) : Host.Outcome State Fault Refusal :=
  match i with
  | .memrd a => Sys2Proof.Machine.execMemrd a s
  | .memwr a v => Sys2Proof.Machine.execMemwr a v s
  | .iord p => Sys2Proof.Machine.execIord p s
  | .iowr p v => Sys2Proof.Machine.execIowr p v s
  | .reset => Sys2Proof.Machine.execReset s
  | .setModel m => Sys2Proof.Machine.execSetModel m s
  | .setRomin b => Sys2Proof.Machine.execSetRomin b s
  | .mapSel n => Sys2Proof.Machine.execMapSel n s
  | .bankCmd c => Sys2Proof.Machine.execBankCmd c s
  | .videoPage w => Sys2Proof.Machine.execVideoPage w s
  | .expWr v => Sys2Proof.Machine.execExpWr v s
  | .expRd => Sys2Proof.Machine.execExpRd s
  | .selWr v => Sys2Proof.Machine.execSelWr v s
  | .romld a v => Sys2Proof.Machine.execRomld a v s
  | .viewrd a => Sys2Proof.Machine.execViewrd a s
  | .viewwr a => Sys2Proof.Machine.execViewwr a s
  | .reservedKind rest => Sys2Proof.Machine.execReservedKind rest s
  | .reservedSb number zero data => Sys2Proof.Machine.execReservedSb number zero data s
  | .iowrSelector v => Sys2Proof.Machine.execIowrSelector v s
  | .iowrExpansionA v => Sys2Proof.Machine.execIowrExpansionA v s
  | .iordExpansionA => Sys2Proof.Machine.execIordExpansionA s
  | .iowrBankreg v => Sys2Proof.Machine.execIowrBankreg v s
  | .iowrExpansionCd v => Sys2Proof.Machine.execIowrExpansionCd v s
  | .iordExpansionCd => Sys2Proof.Machine.execIordExpansionCd s
  | .iowrRomctl v => Sys2Proof.Machine.execIowrRomctl v s
  | .iordWp => Sys2Proof.Machine.execIordWp s
  | .iowrWp v => Sys2Proof.Machine.execIowrWp v s
  | .iordControl => Sys2Proof.Machine.execIordControl s
  | .iowrControl v => Sys2Proof.Machine.execIowrControl v s
  | .iordData => Sys2Proof.Machine.execIordData s
  | .iowrData v => Sys2Proof.Machine.execIowrData v s
  | .iordError => Sys2Proof.Machine.execIordError s
  | .iowrPrecomp v => Sys2Proof.Machine.execIowrPrecomp v s
  | .iordSeccnt => Sys2Proof.Machine.execIordSeccnt s
  | .iowrSeccnt v => Sys2Proof.Machine.execIowrSeccnt v s
  | .iordSecnum => Sys2Proof.Machine.execIordSecnum s
  | .iowrSecnum v => Sys2Proof.Machine.execIowrSecnum v s
  | .iordCyllo => Sys2Proof.Machine.execIordCyllo s
  | .iowrCyllo v => Sys2Proof.Machine.execIowrCyllo v s
  | .iordCylhi => Sys2Proof.Machine.execIordCylhi s
  | .iowrCylhi v => Sys2Proof.Machine.execIowrCylhi v s
  | .iordSdh => Sys2Proof.Machine.execIordSdh s
  | .iowrSdh v => Sys2Proof.Machine.execIowrSdh v s
  | .iordStatus => Sys2Proof.Machine.execIordStatus s
  | .iowrCommand v => Sys2Proof.Machine.execIowrCommand v s
  | .bank0 => Sys2Proof.Machine.execBank0 s
  | .bank2 => Sys2Proof.Machine.execBank2 s
  | .bank3 => Sys2Proof.Machine.execBank3 s
  | .bank6 => Sys2Proof.Machine.execBank6 s
  | .bank7 => Sys2Proof.Machine.execBank7 s
  | .bankIllegal c => Sys2Proof.Machine.execBankIllegal c s
  | .restore low => Sys2Proof.Machine.execRestore low s
  | .read low => Sys2Proof.Machine.execRead low s
  | .readDma low => Sys2Proof.Machine.execReadDma low s
  | .write low => Sys2Proof.Machine.execWrite low s
  | .writeDma low => Sys2Proof.Machine.execWriteDma low s
  | .verify low => Sys2Proof.Machine.execVerify low s
  | .format low => Sys2Proof.Machine.execFormat low s
  | .init low => Sys2Proof.Machine.execInit low s
  | .seek low => Sys2Proof.Machine.execSeek low s
  | .unknown0 low => Sys2Proof.Machine.execUnknown0 low s
  | .unknown8F low => Sys2Proof.Machine.execUnknown8F low s
  | .wordrd a => Sys2Proof.Machine.execWordrd a s
  | .wordwr a w => Sys2Proof.Machine.execWordwr a w s
  | .block dst src count dir => Sys2Proof.Machine.execBlock dst src count dir s

end Sys2Proof.Machine
end

