-- ==== Sys2Proof/Machine/Step.lean ====
section
/-! DEFINITION. One step: the next operation the platform has issued is decoded and run (30_encoding.md rule R90). The
hardware has no program counter (R30); operations come from outside, in the order issued (R73). -/

namespace Sys2Proof.Machine
open Sys2Proof

/-- One step. A configuration that breaks R8 is refused (log 11). With nothing issued nothing changes (R355). Else the
request is taken, decoded and run (log 1). -/
def step (s : State) : Host.Outcome State Fault Refusal :=
  if legalConfiguration s.model s.straps then
    match s.fetch with
    | none => .next s
    | some (r, t) =>
      match decode r with
      | .ok i => exec i t
      | .error e => .refused (.undecodable e)
  else .refused .illegalConfiguration

/-- `s` with the operation that these bits present issued as its next one (log 1, log 2, log 3). -/
def State.withFetchWord (s : State) (nbits w : Nat) : State :=
  { s with pending := requestOfBits nbits w :: s.pending }

end Sys2Proof.Machine
end

