-- ==== Sys2Proof/Safety.lean ====
section
/-! DEFINITION. What claims speak of: the invariants the spec gives the machine (10_state.md rules R34, R47), and runs of
several operations. -/

namespace Sys2Proof.Safety
open Sys2Proof.Machine

/-- The offset of a target lies inside its region's range (R62). -/
def inRange (s : State) (t : Target) : Prop :=
  match t.region with
  | .none => t.off = 0
  | .ram => t.off < 0x210000
  | .rom => t.off < s.romSize.val
  | .video => t.off < 0x800
  | .kbd => t.off < 0x400
  | .printer => t.off = 0
  | .intlatch => t.off < 4
  | .fdsel => t.off < 4
  | .cass => t.off = 0
  | .fdc => t.off < 4

/-- The region can be selected in this direction (R62, R161, R190). -/
def allows : Region → Dir → Bool
  | .fdsel, .rd => false
  | .cass, .rd => false
  | .rom, .wr => false
  | .kbd, .wr => false
  | .intlatch, .wr => false
  | _, _ => true

/-- A target that R62 lets the decoder select. -/
def TargetOk (s : State) (rw : Dir) (t : Target) : Prop := inRange s t ∧ allows t.region rw = true

/-- The storages: canonical stores that stay inside their sizes (R22 to R24); no byte of `rom` is known past
`rom_size`, which only ROMLD moves (R23). -/
def StoresOk (s : State) : Prop :=
  s.ram.wf = true ∧ s.ram.below Config.ramSize = true
    ∧ s.rom.wf = true ∧ s.rom.below s.romSize.val = true
    ∧ s.video.wf = true ∧ s.video.below Config.videoSize = true

/-- The base a configuration without an expansion keeps "for ever" (R29, R49). -/
def fixedBase (m : Model) : BankWord := if m = .c ∨ m = .d then 0x10000#21 else 0#21

/-- No expansion is fitted that writes `bank_base` (R29). -/
def noExpansion (x : Straps) : Bool := !x.huffmanRam && !x.supermem && !x.selectorEnabled

/-- The bank offsets are what the table gives for the last command and the current base (R34, first half). -/
def OffsetsMatchTable (s : State) : Prop :=
  s.bank.bankOffset0 = bankTable0 s.bank.lastCmd s.bank.bankBase
    ∧ s.bank.bankOffset1 = bankTable1 s.bank.lastCmd s.bank.bankBase

/-- In every configuration the offsets are the table's pair for the last command and some base of the range (R28): the
base of the moment a banking command or a re-apply ran. So whatever R134 lets the decoder form is below `RAM_SIZE` (R34,
second half). -/
def OffsetsFromTable (s : State) : Prop :=
  ∃ base : BankWord, base.toNat ≤ 0x1F0000
    ∧ s.bank.bankOffset0 = bankTable0 s.bank.lastCmd base ∧ s.bank.bankOffset1 = bankTable1 s.bank.lastCmd base

/-- The bank state: a legal configuration (R8); `romin` only on variant D (R26); the selector register only with the card
(R33); the base within its range (R22, R29); the offsets from the table in every configuration (R28); from the table and
the current base (R34, first half) but where Supermem or the selector card is fitted, which move the base while
"`bank_offset` is untouched" (R138, R141; log 14). -/
def BankOk (s : State) : Prop :=
  legalConfiguration s.model s.straps = true
    ∧ (s.model ≠ .d → s.bank.romin = false)
    ∧ (s.straps.selectorEnabled = false → s.bank.selectorReg = 0#8)
    ∧ s.bank.bankBase.toNat ≤ 0x1F0000
    ∧ (noExpansion s.straps = true → s.bank.bankBase = fixedBase s.model)
    ∧ OffsetsFromTable s
    ∧ (s.straps.supermem = false → s.straps.selectorEnabled = false → OffsetsMatchTable s)

/-- Status and error are one of the pairs that R36, R37 and R47 (a), (b) allow. -/
def statusPairs : List (Byte × Byte) :=
  [(0x00#8, 0x00#8), (0x40#8, 0x00#8), (0x48#8, 0x00#8), (0x01#8, 0x04#8), (0x01#8, 0x10#8), (0x01#8, 0x40#8)]

/-- The HDC registers (R47 (a) to (c), R51). -/
def HdcOk (s : State) : Prop :=
  (s.hdc.status, s.hdc.error) ∈ statusPairs
    ∧ s.hdc.bytesdone ≤ 256
    ∧ s.hdc.drive.getLsbD 2 = false
    ∧ s.hdc.head.getLsbD 3 = false

/-- One slot (R47 (d), (e)); an open slot has a medium, and its position is never inside the header (R330). -/
def SlotOk (s : State) (d : SlotId) : Prop :=
  ((s.drv.get d).isOpen = false → s.drv.get d = .closed)
    ∧ ((s.drv.get d).isOpen = true →
        1 ≤ (s.drv.get d).heads ∧ (s.drv.get d).heads ≤ 8
          ∧ (s.drv.get d).sectorsPerTrack = s.straps.sectorsPerTrack
          ∧ 1 ≤ (s.drv.get d).cylinders ∧ (s.drv.get d).cylinders ≤ 256
          ∧ 256 ≤ (s.drv.get d).fpos
          ∧ (s.media.get d).isSome = true)

/-- An image lists its known bytes canonically and inside its length (R320). -/
def ImageOk (s : State) (d : SlotId) : Prop :=
  ∀ img, s.media.get d = some img → img.bytes.wf = true ∧ img.bytes.below img.len = true

/-- The invariant of the machine. -/
def MachineInv (s : State) : Prop :=
  StoresOk s ∧ BankOk s ∧ HdcOk s ∧ (∀ d, SlotOk s d) ∧ (∀ d, ImageOk s d)

/-- Operations run one after the other, each to its end (R73). -/
def execAll : List Instr → State → Host.Outcome State Fault Refusal
  | [], s => .next s
  | i :: is, s =>
    match exec i s with
    | .next t => execAll is t
    | .fault f => .fault f
    | .refused r => .refused r

/-- `n` pairs MEMRD `src`, MEMWR `dst` with both pointers moved by `delta` (mod 0x10000), the last byte read being the
result: what R228 says BLOCK is, in terms of the byte operations. -/
def copyBytes (delta : Addr) : Nat → State → (dst src : Addr) → Host.Outcome State Fault Refusal
  | 0, s, _, _ => .next s
  | n + 1, s, dst, src =>
    match exec (.memrd src) s with
    | .next t =>
      match t.answer with
      | .byte b =>
        match exec (.memwr dst b) t with
        | .next u => if n = 0 then .next { u with answer := .byte b } else copyBytes delta n u (dst + delta) (src + delta)
        | .fault f => .fault f
        | .refused r => .refused r
      | _ => .next t
    | .fault f => .fault f
    | .refused r => .refused r

/-- Status and error did not change. -/
def SameStatus (s t : State) : Prop := t.hdc.status = s.hdc.status ∧ t.hdc.error = s.hdc.error

/-- Status and error are these after the operation. -/
def StatusIs (t : State) (status error : Byte) : Prop := t.hdc.status = status ∧ t.hdc.error = error

/-- The row of R299's table for an operation: what it may leave in status and error. -/
def StatusRow (i : Instr) (s t : State) : Prop :=
  match i with
  | .reset => StatusIs t 0x00#8 0x00#8
  | .iowrControl v => if v.getLsbD 4 then StatusIs t 0x00#8 0x00#8 else SameStatus s t
  | .restore _ | .format _ | .init _ => StatusIs t 0x40#8 0x00#8
  | .readDma _ | .writeDma _ => StatusIs t 0x01#8 0x04#8
  | .read _ | .write _ => StatusIs t 0x01#8 0x10#8 ∨ StatusIs t 0x48#8 0x00#8
  | .verify _ | .seek _ => StatusIs t 0x01#8 0x10#8 ∨ StatusIs t 0x40#8 0x00#8
  | .iordWp => StatusIs t 0x01#8 0x10#8 ∨ SameStatus s t
  | .iowrData _ => StatusIs t 0x01#8 0x40#8 ∨ SameStatus s t
  | .iowrCommand v =>
    match (v.extractLsb' 4 4).toNat with
    | 1 | 5 | 6 => StatusIs t 0x40#8 0x00#8
    | 2 | 3 =>
      if v.getLsbD 3 then StatusIs t 0x01#8 0x04#8 else StatusIs t 0x01#8 0x10#8 ∨ StatusIs t 0x48#8 0x00#8
    | 4 | 7 => StatusIs t 0x01#8 0x10#8 ∨ StatusIs t 0x40#8 0x00#8
    | _ => SameStatus s t
  | _ => SameStatus s t

/-- The operations that reach the HDC: its ports and the controller command bytes (R250, R280); RESET reaches both
blocks and is counted with neither. -/
def isHdcOperation : Instr → Bool
  | .iordWp | .iowrWp _ | .iordControl | .iowrControl _ | .iordData | .iowrData _ | .iordError | .iowrPrecomp _
  | .iordSeccnt | .iowrSeccnt _ | .iordSecnum | .iowrSecnum _ | .iordCyllo | .iowrCyllo _ | .iordCylhi | .iowrCylhi _
  | .iordSdh | .iowrSdh _ | .iordStatus | .iowrCommand _ | .restore _ | .read _ | .readDma _ | .write _ | .writeDma _
  | .verify _ | .format _ | .init _ | .seek _ | .unknown0 _ | .unknown8F _ => true
  | _ => false

/-- No media operation on slot `d` fails for outside reasons (R329's default, for one slot). -/
def NoFaultOn (s : State) (d : SlotId) : Prop := ∀ f ∈ s.ioFaults, f.slot ≠ d

/-- An outcome that is no fault. -/
def NotFault (o : Host.Outcome State Fault Refusal) : Prop := ∀ f, o ≠ .fault f

end Sys2Proof.Safety
end

