-- ==== Sys2Proof/Certificates/Slice0/Obligations.lean ====
section
/-! DEFINITION. The statements for the provers. Each docstring names the rules of spec/ it formalises. Addresses inside the
statements about decoding are naturals below 0x10000. -/

open Sys2Proof Sys2Proof.Machine Sys2Proof.Safety

/-! ### Encoding, step -/

/-- Decoding the written form of a well-formed operation gives it back (R91 to R104, R114, R115). -/
def Obligations.DecodeReadsBackEncode : Prop := ∀ i : Instr, i.wellFormed = true → decode (encode i) = .ok i

/-- Words of the scripts P1, P2, P4 and of the vectors, written out from R91 and R99, and two bytes (R102, R115). -/
def Obligations.ScriptWordsDecode : Prop :=
  decode (.word 0x01900011#32) = .ok (.memwr 0x9000#16 0x11#8)
    ∧ decode (.word 0x03008420#32) = .ok (.iowrBankreg 0x20#8)
    ∧ decode (.word 0x0537FF00#32) = .ok (.romld 0x37FF#16 0x00#8)
    ∧ decode (.word 0x04040003#32) = .ok (.bankCmd 0x03#8)
    ∧ decode (.word 0x02C1CF00#32) = .ok .iordStatus
    ∧ decode (.word 0x07380000#32) = .ok (.viewwr 0x3800#16)
    ∧ decode (.commandByte 0x3F#8) = .ok (.writeDma 7#3)
    ∧ decode (.bankByte 0x06#8) = .ok .bank6

/-- R96: of a port word's address only bits 7:0 matter. -/
def Obligations.PortUpperAddressByteIgnored : Prop :=
  ∀ (kind : BitVec 4) (hi hi' p d : Byte), kind = 2#4 ∨ kind = 3#4 →
    decode (transaction kind hi p d) = decode (transaction kind hi' p d)

/-- R92, R94, R97, R116: a word of kind 8..15, and a side-band word with a reserved number or a non-zero `addr[7:0]`,
decode to operations that the model refuses in every state. -/
def Obligations.ReservedWordsAreRefused : Prop :=
  (∀ (rest : BitVec 27) (s : State), exec (.reservedKind rest) s = .refused .reservedKind)
    ∧ (∀ (n z d : Byte) (s : State), exec (.reservedSb n z d) s = .refused .reservedSideBand)
    ∧ (∀ (kind : BitVec 4) (hi lo d : Byte), 8 ≤ kind.toNat →
        ∃ rest, decode (transaction kind hi lo d) = .ok (.reservedKind rest))
    ∧ (∀ hi lo d : Byte, 9 ≤ hi.toNat ∨ lo ≠ 0#8 →
        decode (transaction 4#4 hi lo d) = .ok (.reservedSb hi lo d))

/-- R116, R130: no other operation is refused, but SET_MODEL of a model the straps do not suit. -/
def Obligations.OnlyReservedWordsAndSetModelRefuse : Prop :=
  ∀ (i : Instr) (s : State) (r : Refusal), exec i s = .refused r →
    (∃ rest, i = .reservedKind rest ∧ r = .reservedKind)
      ∨ (∃ n z d, i = .reservedSb n z d ∧ r = .reservedSideBand)
      ∨ (∃ m k, i = .setModel m ∧ modelOfId m = some k ∧ legalConfiguration k s.straps = false
          ∧ r = .illegalConfiguration)

/-- R90, R73: a step runs the operation that the next request stands for, on the state with that request taken. The
queue of requests is the model's choice (log 1). -/
def Obligations.StepRunsDecodedInstruction : Prop :=
  ∀ (s : State) (r : Request) (rest : List Request) (i : Instr),
    legalConfiguration s.model s.straps = true → s.pending = r :: rest → decode r = .ok i → i.wellFormed = true →
      step s = exec i { s with pending := rest }

/-- R355 ("Nothing in either block changes unless an operation is issued") and R8 (an illegal configuration has no
meaning): what a step does where it runs no operation (logs 1 and 11). -/
def Obligations.StepWithoutOperation : Prop :=
  (∀ s : State, legalConfiguration s.model s.straps = true → s.pending = [] → step s = .next s)
    ∧ (∀ s : State, legalConfiguration s.model s.straps = false → step s = .refused .illegalConfiguration)

/-! ### Mode and address decoding -/

/-- R27: the mode code by variant, and the 21 values it can take. -/
def Obligations.ModeCodeFormula : Prop :=
  ∀ s : State,
    (s.model = .a → s.straps.selectorEnabled = true →
        s.mode.code = 0x10#7 ||| (s.bank.selectorReg.extractLsb' 0 3).zeroExtend 7)
      ∧ (s.model = .a → s.straps.selectorEnabled = false → s.mode.code = 0x10#7)
      ∧ (s.model = .b → s.mode.code = 0x30#7)
      ∧ (s.model = .c → s.mode.code = 0x40#7 ||| s.bank.mapSel.zeroExtend 7)
      ∧ (s.model = .d →
          s.mode.code = 0x50#7 ||| ((BitVec.ofBool s.bank.romin).zeroExtend 7 <<< 2) ||| s.bank.mapSel.zeroExtend 7)
      ∧ ((0x10 ≤ s.mode.code.toNat ∧ s.mode.code.toNat ≤ 0x17) ∨ s.mode.code.toNat = 0x30
          ∨ (0x40 ≤ s.mode.code.toNat ∧ s.mode.code.toNat ≤ 0x43)
          ∨ (0x50 ≤ s.mode.code.toNat ∧ s.mode.code.toNat ≤ 0x57))

/-- R62, R63, R161, R190: for every state, address and direction the decoder answers a region that the direction allows
and an offset inside it; the four peripherals of variant A are selected on variant A only. -/
def Obligations.DecodeSelectsInsideRegions : Prop :=
  ∀ (s : State) (a : Addr) (rw : Dir),
    inRange s (s.route a.toNat rw) ∧ allows (s.route a.toNat rw).region rw = true
      ∧ ((s.route a.toNat rw).region ∈ [Region.intlatch, .fdsel, .cass, .fdc] → s.model = .a)

/-- R192: variant B's table, by address ranges. -/
def Obligations.VariantBDecode : Prop :=
  ∀ (s : State) (a : Nat) (rw : Dir), s.model = .b → a < 0x10000 →
    (0x4000 ≤ a → s.route a rw = ⟨.ram, a⟩)
      ∧ (a = 0x37E8 → s.route a rw = ⟨.printer, 0⟩)
      ∧ (a < s.romSize.val → a ≠ 0x37E8 → s.route a .rd = ⟨.rom, a⟩)
      ∧ (s.romSize.val ≤ a → a < 0x3800 → a ≠ 0x37E8 → s.route a .rd = ⟨.none, 0⟩)
      ∧ (a < 0x3C00 → a ≠ 0x37E8 → s.route a .wr = ⟨.none, 0⟩)
      ∧ (0x3800 ≤ a → a < 0x3C00 → s.route a .rd = ⟨.kbd, a - 0x3800⟩)
      ∧ (0x3C00 ≤ a → a < 0x4000 → s.route a rw = ⟨.video, (a - 0x3C00) + s.videoOffset⟩)

/-- R193, R195, R198: map 0 of variants C and D. -/
def Obligations.MapZeroDecode : Prop :=
  ∀ (s : State) (a : Nat) (rw : Dir), s.model = .c ∨ s.model = .d → s.bank.mapSel = 0#2 → a < 0x10000 →
    (0x4000 ≤ a →
        s.route a rw = ⟨.ram, a + (if a < 0x8000 then s.bank.bankOffset0 else s.bank.bankOffset1).toNat⟩)
      ∧ (a = 0x37E8 → s.route a rw = ⟨.printer, 0⟩)
      ∧ (a < 0x3800 → a ≠ 0x37E8 → s.route a .wr = ⟨.none, 0⟩)
      ∧ (a < s.romSize.val → a ≠ 0x37E8 → s.model = .c ∨ s.bank.romin = true → s.route a .rd = ⟨.rom, a⟩)
      ∧ (s.romSize.val ≤ a → a < 0x3800 → a ≠ 0x37E8 → s.model = .c → s.route a .rd = ⟨.none, 0⟩)
      ∧ (s.romSize.val ≤ a ∨ s.bank.romin = false → a < 0x3800 → a ≠ 0x37E8 → s.model = .d →
          s.route a .rd = ⟨.ram, a + s.bank.bankOffset0.toNat⟩)
      ∧ (0x3800 ≤ a → a < 0x3C00 → s.route a .rd = ⟨.kbd, a - 0x3800⟩ ∧ s.route a .wr = ⟨.none, 0⟩)
      ∧ (0x3C00 ≤ a → a < 0x4000 → s.route a rw = ⟨.video, (a - 0x3C00) + s.videoOffset⟩)

/-- R194, R196, R197: maps 1, 2 and 3 of variants C and D. -/
def Obligations.MapsOneToThreeDecode : Prop :=
  ∀ (s : State) (a : Nat) (rw : Dir), s.model = .c ∨ s.model = .d → a < 0x10000 →
    let banked : Target := ⟨.ram, a + (if a < 0x8000 then s.bank.bankOffset0 else s.bank.bankOffset1).toNat⟩
    (s.bank.mapSel = 1#2 →
        (s.model = .d → s.bank.romin = true → a < s.romSize.val → s.route a .rd = ⟨.rom, a⟩ ∧ s.route a .wr = banked)
          ∧ (s.model = .c ∨ s.bank.romin = false ∨ s.romSize.val ≤ a → a < 0x3800 ∨ 0x4000 ≤ a → s.route a rw = banked)
          ∧ (0x3800 ≤ a → a < 0x3C00 → s.route a .rd = ⟨.kbd, a - 0x3800⟩ ∧ s.route a .wr = ⟨.none, 0⟩)
          ∧ (0x3C00 ≤ a → a < 0x4000 → s.route a rw = ⟨.video, (a - 0x3C00) + s.videoOffset⟩))
      ∧ (s.bank.mapSel = 2#2 →
          (a < 0xF400 → s.route a rw = banked)
            ∧ (0xF400 ≤ a → a < 0xF800 → s.route a .rd = ⟨.kbd, a - 0xF400⟩ ∧ s.route a .wr = ⟨.none, 0⟩)
            ∧ (0xF800 ≤ a → a < 0xFC00 → s.route a rw = ⟨.none, 0⟩)
            ∧ (0xFC00 ≤ a → s.route a rw = ⟨.video, a - 0xFC00⟩))
      ∧ (s.bank.mapSel = 3#2 → s.route a rw = banked)

/-- R163 to R168 and R171: where variant A shows its 16 KiB block (whole in sub-modes 0 and 6, its upper part in 2,
moved to the top in 1 and 3), and what the block holds. `m` is the address inside the block. -/
def Obligations.VariantABlockDecode : Prop :=
  ∀ (s : State) (sub : BitVec 3) (a m : Nat) (rw : Dir), s.mode = .a sub → a < 0x10000 → m = a % 0x4000 →
    ((sub = 0#3 ∨ sub = 6#3) ∧ a < 0x4000) ∨ (sub = 1#3 ∧ 0xF7E0 ≤ a ∧ a ≤ 0xF7FF)
        ∨ (sub = 2#3 ∧ 0x37E0 ≤ a ∧ a < 0x4000) ∨ (sub = 3#3 ∧ 0xF7E0 ≤ a) →
      (0x3C00 ≤ m → s.route a rw = ⟨.video, (m - 0x3C00) + s.videoOffset⟩)
        ∧ (0x3800 ≤ m → m < 0x3C00 → s.route a .rd = ⟨.kbd, m - 0x3800⟩ ∧ s.route a .wr = ⟨.none, 0⟩)
        ∧ (m = 0x37E8 → s.route a rw = ⟨.printer, 0⟩)
        ∧ (0x37E0 ≤ m → m ≤ 0x37E3 → s.route a .rd = ⟨.intlatch, m - 0x37E0⟩ ∧ s.route a .wr = ⟨.fdsel, m - 0x37E0⟩)
        ∧ (m = 0x37E4 → s.route a .wr = ⟨.cass, 0⟩)
        ∧ (0x37EC ≤ m → m ≤ 0x37EF → s.route a rw = ⟨.fdc, m - 0x37EC⟩)
        ∧ (m < 0x3800 → ¬(0x37E0 ≤ m ∧ m ≤ 0x37E3) → m ≠ 0x37E8 → ¬(0x37EC ≤ m ∧ m ≤ 0x37EF) →
            (m ≠ 0x37E4 → s.route a .wr = ⟨.none, 0⟩)
              ∧ s.route a .rd = if (sub = 0#3 ∨ sub = 6#3) ∧ m < s.romSize.val then ⟨.rom, m⟩ else ⟨.none, 0⟩)

/-- R162, R165 to R172: the rest of variant A's address space: RAM with the banked half, the alias zone of sub-mode 6,
and nothing at all in sub-mode 7. -/
def Obligations.VariantARamDecode : Prop :=
  ∀ (s : State) (sub : BitVec 3) (a : Nat) (rw : Dir), s.mode = .a sub → a < 0x10000 →
    let fitted := s.straps.selectorEnabled = true ∨ s.straps.supermem = true
    let lowerActive := s.bank.selectorReg.getLsbD 0 = true
    let extra := if fitted ∧ (a < 0x8000 ↔ lowerActive) then s.bank.bankBase.toNat else 0
    ((sub = 0#3 ∧ 0x4000 ≤ a) ∨ (sub = 1#3 ∧ (a < 0xF7E0 ∨ 0xF800 ≤ a)) ∨ (sub = 2#3 ∧ (a < 0x37E0 ∨ 0x4000 ≤ a))
          ∨ (sub = 3#3 ∧ a < 0xF7E0) ∨ sub = 4#3 ∨ sub = 5#3 ∨ (sub = 6#3 ∧ 0x4000 ≤ a ∧ a < 0xC000) →
        s.route a rw = ⟨.ram, a + extra⟩)
      ∧ (sub = 6#3 → 0xC000 ≤ a →
          s.route a rw = if a - 0xC000 + extra < 0x4000 then ⟨.none, 0⟩ else ⟨.ram, a - 0xC000 + extra⟩)
      ∧ (sub = 7#3 → s.route a rw = ⟨.none, 0⟩)

/-- R140: the physical windows that BANK_CMD gives on variants C and D, seen through the all-RAM map. -/
def Obligations.BankCommandWindows : Prop :=
  ∀ (s : State) (c : Byte), s.model = .c ∨ s.model = .d → s.bank.mapSel = 3#2 → s.bank.bankBase.toNat ≤ 0x1F0000 →
    c = 0#8 ∨ c = 2#8 ∨ c = 3#8 ∨ c = 6#8 ∨ c = 7#8 →
      ∃ t, exec (.bankCmd c) s = .next t ∧ ∀ (a : Nat) (rw : Dir), a < 0x10000 →
        t.route a rw =
          if a < 0x8000 then
            (if c = 6#8 then ⟨.ram, s.bank.bankBase.toNat + a⟩
             else if c = 7#8 then ⟨.ram, s.bank.bankBase.toNat + 0x8000 + a⟩
             else ⟨.ram, a⟩)
          else
            (if c = 2#8 then ⟨.ram, 0x10000 + (a - 0x8000)⟩
             else if c = 3#8 then ⟨.ram, s.bank.bankBase.toNat + 0x10000 + (a - 0x8000)⟩
             else ⟨.ram, a⟩)

/-- R143: external bank `n` = `v[5:4]` is physical 0x10000 + n * 0x8000 on, whichever half `v[0]` shows it in, through the
all-RAM sub-modes 4 and 5. -/
def Obligations.SelectorBankWindows : Prop :=
  ∀ (s : State) (v : Byte), s.model = .a → s.straps.selectorEnabled = true →
    v.extractLsb' 0 3 = 4#3 ∨ v.extractLsb' 0 3 = 5#3 →
      ∃ t, exec (.selWr v) s = .next t ∧ ∀ (a : Nat) (rw : Dir), a < 0x10000 →
        let n := (v.extractLsb' 4 2).toNat
        t.route a rw =
          if v.getLsbD 3 = true ∧ v.getLsbD 0 = false ∧ 0x8000 ≤ a then ⟨.ram, 0x10000 + n * 0x8000 + (a - 0x8000)⟩
          else if v.getLsbD 3 = true ∧ v.getLsbD 0 = true ∧ a < 0x8000 then ⟨.ram, a + 0x10000 + n * 0x8000⟩
          else ⟨.ram, a⟩

/-- R173: with Supermem, value `k` = `v[3:0]` shows physical 0x8000 + k * 0x8000 on in the upper half, and the RAM below
is not moved. -/
def Obligations.SupermemWindow : Prop :=
  ∀ (s : State) (v : Byte), s.straps.supermem = true → legalConfiguration s.model s.straps = true →
    s.bank.selectorReg = 0#8 →
      ∃ t, exec (.expWr v) s = .next t ∧ ∀ (a : Nat) (rw : Dir),
        (0x8000 ≤ a → a < 0x10000 → t.route a rw = ⟨.ram, 0x8000 + v.toNat % 16 * 0x8000 + (a - 0x8000)⟩)
          ∧ (0x4000 ≤ a → a < 0x8000 → t.route a rw = ⟨.ram, a⟩)

/-- R199: on variant D `romin` changes only reads below `rom_size` in maps 0 and 1 (but 0x37E8 in map 0). -/
def Obligations.RominChangesOnlyRomReads : Prop :=
  ∀ (s : State) (b : Bool) (a : Nat) (rw : Dir), s.model = .d → a < 0x10000 →
    rw = .wr ∨ s.romSize.val ≤ a ∨ s.bank.mapSel = 2#2 ∨ s.bank.mapSel = 3#2 ∨ (s.bank.mapSel = 0#2 ∧ a = 0x37E8) →
      ∃ t, exec (.setRomin b) s = .next t ∧ t.route a rw = s.route a rw

/-! ### Bus operations -/

/-- R220, R64: MEMRD answers the byte of the region its address decodes to, 0xFF where there is none, and changes nothing
of the hardware's state; a peripheral is told of its read (log 9) and what it answers is free (log 6). -/
def Obligations.MemrdByRegion : Prop :=
  ∀ (s : State) (a : Addr),
    let r := s.route a.toNat .rd
    (r.region = .ram → exec (.memrd a) s = .next { s with answer := .byte (s.ramByte r.off) })
      ∧ (r.region = .rom → exec (.memrd a) s = .next { s with answer := .byte (s.romByte r.off) })
      ∧ (r.region = .video → exec (.memrd a) s = .next { s with answer := .byte (s.videoByte r.off) })
      ∧ (r.region = .none → exec (.memrd a) s = .next { s with answer := .byte 0xFF#8 })
      ∧ (r.region ∈ [Region.kbd, .printer, .intlatch, .fdc] →
          ∃ b, exec (.memrd a) s = .next
            { s with answer := .byte b, events := .periphRead r.region r.off :: s.events, draws := s.draws + 1 })
      ∧ r.region ≠ .fdsel ∧ r.region ≠ .cass

/-- R221: MEMWR stores in RAM or video, is dropped where nothing is mapped, and is handed to a peripheral; every byte it
does not store to reads as before. -/
def Obligations.MemwrByRegion : Prop :=
  ∀ (s : State) (a : Addr) (v : Byte),
    let r := s.route a.toNat .wr
    (r.region = .ram →
        ∃ t, exec (.memwr a v) s = .next t ∧ t = { s with ram := t.ram, answer := .nothing }
          ∧ ∀ o, t.ramByte o = if o = r.off then v else s.ramByte o)
      ∧ (r.region = .video →
          ∃ t, exec (.memwr a v) s = .next t ∧ t = { s with video := t.video, events := t.events, answer := .nothing }
            ∧ ∀ o, t.videoByte o = if o = r.off then v else s.videoByte o)
      ∧ (r.region = .none → exec (.memwr a v) s = .next { s with answer := .nothing })
      ∧ (r.region ∈ [Region.printer, .fdsel, .cass, .fdc] →
          exec (.memwr a v) s =
            .next { s with events := .periphWrite r.region r.off v :: s.events, answer := .nothing })
      ∧ r.region ≠ .rom ∧ r.region ≠ .kbd ∧ r.region ≠ .intlatch

/-- R222: a video write of the byte already stored does nothing; any other stores it and notifies the display exactly
once. -/
def Obligations.VideoWriteNotifiesOnChange : Prop :=
  ∀ (s : State) (a : Addr) (v : Byte),
    let r := s.route a.toNat .wr
    r.region = .video →
      (s.videoByte r.off = v → exec (.memwr a v) s = .next { s with answer := .nothing })
        ∧ (s.videoByte r.off ≠ v →
            ∃ t, exec (.memwr a v) s = .next t ∧ t.events = .display r.off v :: s.events ∧ t.videoByte r.off = v)

/-- R73, R76: a read of an address, through whichever address it decodes to the same cell, returns the byte of the write
just before. -/
def Obligations.ReadReturnsLastWrite : Prop :=
  ∀ (s : State) (a b : Addr) (v : Byte), s.route b.toNat .rd = s.route a.toNat .wr →
    (s.route a.toNat .wr).region = .ram ∨ (s.route a.toNat .wr).region = .video →
      ∃ t, exec (.memwr a v) s = .next t ∧ exec (.memrd b) t = .next { t with answer := .byte v }

/-- R224, R225: the word operations are two byte operations, the low byte first, the address wrapping. -/
def Obligations.WordsAreTwoByteOperations : Prop :=
  (∀ (s : State) (a : Addr),
      ∃ lo hi t u, exec (.memrd a) s = .next t ∧ t.answer = .byte lo ∧ exec (.memrd (a + 1#16)) t = .next u
        ∧ u.answer = .byte hi ∧ exec (.wordrd a) s = .next { u with answer := .word (hi ++ lo) })
    ∧ (∀ (s : State) (a w : Addr),
        ∃ t u, exec (.memwr a (w.extractLsb' 0 8)) s = .next t
          ∧ exec (.memwr (a + 1#16) (w.extractLsb' 8 8)) t = .next u ∧ exec (.wordwr a w) s = .next u)

/-- R65: a word written where both its bytes are RAM reads back whole, with its low byte at the lower address. -/
def Obligations.WordWrittenReadsBack : Prop :=
  ∀ (s : State) (a w : Addr) (o p : Nat),
    (∀ rw, s.route a.toNat rw = ⟨.ram, o⟩) → (∀ rw, s.route (a + 1#16).toNat rw = ⟨.ram, p⟩) → o ≠ p →
      ∃ t u, exec (.wordwr a w) s = .next t ∧ t.ramByte o = w.extractLsb' 0 8 ∧ t.ramByte p = w.extractLsb' 8 8
        ∧ exec (.wordrd a) t = .next u ∧ u.answer = .word w

/-- R228: BLOCK is `count` pairs of MEMRD and MEMWR (65536 for a count of 0) with both pointers stepped by `dir` mod
0x10000, and returns the last byte moved. It always completes. -/
def Obligations.BlockIsByteCopies : Prop :=
  ∀ (s : State) (dst src count : Addr) (dir : Direction),
    let n := if count = 0#16 then 65536 else count.toNat
    let delta : Addr := match dir with | .up => 1#16 | .down => 0xFFFF#16
    ∃ t, exec (.block dst src count dir) s = .next t ∧ copyBytes delta n s dst src = .next t

/-- R228: an overlapping forward copy with `dst = src + 1` replicates one byte through the range; seen on the all-RAM map
without bank offsets. -/
def Obligations.BlockForwardOverlapReplicates : Prop :=
  ∀ (s : State) (src : Addr) (n : Nat), s.model = .c → s.bank.mapSel = 3#2 → s.bank.bankOffset0 = 0#21 →
    s.bank.bankOffset1 = 0#21 → 1 ≤ n → src.toNat + n ≤ 0xFFFF →
      ∃ t, exec (.block (src + 1#16) src (BitVec.ofNat 16 n) .up) s = .next t
        ∧ t.answer = .byte (s.ramByte src.toNat)
        ∧ (∀ k, k ≤ n → t.ramByte (src.toNat + k) = s.ramByte src.toNat)
        ∧ (∀ o, o < src.toNat ∨ src.toNat + n < o → t.ramByte o = s.ramByte o)
        ∧ t = { s with ram := t.ram, answer := t.answer }

/-- R226, R227: what a view is a view of; a view changes nothing. -/
def Obligations.ViewsByRegion : Prop :=
  ∀ (s : State) (a : Addr),
    let r := s.route a.toNat .rd
    let w := s.route a.toNat .wr
    let hole := s.mode = .a 0#3 ∧ s.straps.selectorEnabled = true ∧ 0x3800 ≤ a.toNat ∧ a.toNat ≤ 0x3AFF
    (r.region ∈ [Region.ram, .rom, .video] →
        ∃ n, exec (.viewrd a) s = .next { s with answer := .view r.region r.off n })
      ∧ (r.region ∉ [Region.ram, .rom, .video] → exec (.viewrd a) s = .next { s with answer := .unmapped })
      ∧ (¬hole → w.region = .ram → ∃ n, exec (.viewwr a) s = .next { s with answer := .view .ram w.off n })
      ∧ (¬hole → w.region ≠ .ram → exec (.viewwr a) s = .next { s with answer := .unmapped })
      ∧ (hole → ∃ o n, exec (.viewwr a) s = .next { s with answer := .view .ram o n })

/-- R229: the length of a view is the largest for which every address continues the same region contiguously and none
is past 0xFFFF. -/
def Obligations.ViewLengthIsMaximal : Prop :=
  ∀ (s t : State) (a : Addr) (rw : Dir) (reg : Region) (off n : Nat),
    exec (match rw with | .rd => .viewrd a | .wr => .viewwr a) s = .next t → t.answer = .view reg off n →
      1 ≤ n ∧ a.toNat + n ≤ 0x10000
        ∧ (∀ i, i < n → s.viewTarget (a.toNat + i) rw = some ⟨reg, off + i⟩)
        ∧ (a.toNat + n < 0x10000 → s.viewTarget (a.toNat + n) rw ≠ some ⟨reg, off + n⟩)

/-- R230: the keyboard hole of sub-mode 0 with the selector card is reached by the write view only. -/
def Obligations.KeyboardHoleIsAViewOnly : Prop :=
  ∀ (s : State) (a : Addr) (v : Byte), s.mode = .a 0#3 → s.bank.selectorReg.getLsbD 0 = false → 0x3800 ≤ a.toNat →
    a.toNat ≤ 0x3BFF →
      exec (.memwr a v) s = .next { s with answer := .nothing }
        ∧ exec (.viewrd a) s = .next { s with answer := .unmapped }
        ∧ exec (.viewwr a) s = .next
            { s with
              answer :=
                if s.straps.selectorEnabled = true ∧ a.toNat ≤ 0x3AFF then .view .ram a.toNat (0x3B00 - a.toNat)
                else .unmapped }

/-! ### Mode selection and bank switching -/

/-- R130 with R8: SET_MODEL reports an illegal id, re-initialises MEMDEC for a legal one, and refuses a model that the
straps do not suit. -/
def Obligations.SetModelResult : Prop :=
  ∀ (s : State) (m : Byte),
    (m ∉ [1#8, 3#8, 4#8, 5#8] →
        exec (.setModel m) s = .next { s with events := .diag .cfgModel :: s.events, answer := .nothing })
      ∧ ∀ k : Model, (m, k) ∈ [(1#8, Model.a), (3#8, .b), (4#8, .c), (5#8, .d)] →
          let legal :=
            (s.straps.huffmanRam = true → (k = .c ∨ k = .d) ∧ s.straps.supermem = false ∧ s.straps.selectorEnabled = false)
              ∧ (s.straps.supermem = true → k = .a ∧ s.straps.selectorEnabled = false)
              ∧ (s.straps.selectorEnabled = true → k = .a)
              ∧ 1 ≤ s.straps.sectorsPerTrack ∧ s.straps.sectorsPerTrack ≤ 255
          (¬legal → exec (.setModel m) s = .refused .illegalConfiguration)
            ∧ (legal →
                exec (.setModel m) s = .next
                  { s with
                    model := k
                    bank :=
                      { mapSel := 0#2, romin := decide (k = .d), selectorReg := 0x00#8, bankOffset0 := 0#21,
                        bankOffset1 := 0#21, bankBase := if k = .c ∨ k = .d then 0x10000#21 else 0#21, lastCmd := .c0,
                        videoPage := .page0 }
                    answer := .nothing })

/-- R131, R132, R144: SET_ROMIN on variant D only, MAP_SEL on variants C and D only, VIDEO_PAGE on every variant; on the
others nothing changes. -/
def Obligations.ModeSelectionResults : Prop :=
  ∀ (s : State) (b : Bool) (n : BitVec 2),
    (s.model = .d → exec (.setRomin b) s = .next { s with bank := { s.bank with romin := b }, answer := .nothing })
      ∧ (s.model ≠ .d → exec (.setRomin b) s = .next { s with answer := .nothing })
      ∧ (s.model = .c ∨ s.model = .d →
          exec (.mapSel n) s = .next { s with bank := { s.bank with mapSel := n }, answer := .nothing })
      ∧ (s.model = .a ∨ s.model = .b → exec (.mapSel n) s = .next { s with answer := .nothing })
      ∧ (∃ t, exec (.videoPage b) s = .next t ∧ t = { s with bank := { s.bank with videoPage := t.bank.videoPage }, answer := .nothing }
          ∧ t.videoOffset = if b then 0x400 else 0x000)

/-- R133, R134, R135: the banking commands, through BANK_CMD and as bytes: the table of the offsets, and an illegal
command that is reported and changes nothing. -/
def Obligations.BankCommandTable : Prop :=
  ∀ (s : State) (c : Byte),
    let after (k : BankCommand) (o0 o1 : BankWord) : Host.Outcome State Fault Refusal :=
      .next { s with bank := { s.bank with lastCmd := k, bankOffset0 := o0, bankOffset1 := o1 }, answer := .nothing }
    let base := s.bank.bankBase
    (exec (.bankCmd 0#8) s = after .c0 0#21 0#21 ∧ exec .bank0 s = after .c0 0#21 0#21)
      ∧ (exec (.bankCmd 2#8) s = after .c2 0#21 0x8000#21 ∧ exec .bank2 s = after .c2 0#21 0x8000#21)
      ∧ (exec (.bankCmd 3#8) s = after .c3 0#21 (0x8000#21 + base) ∧ exec .bank3 s = after .c3 0#21 (0x8000#21 + base))
      ∧ (exec (.bankCmd 6#8) s = after .c6 base 0#21 ∧ exec .bank6 s = after .c6 base 0#21)
      ∧ (exec (.bankCmd 7#8) s = after .c7 (0x8000#21 + base) 0#21 ∧ exec .bank7 s = after .c7 (0x8000#21 + base) 0#21)
      ∧ (c ∉ [0#8, 2#8, 3#8, 6#8, 7#8] →
          exec (.bankCmd c) s = .next { s with events := .diag .cfgBankCmd :: s.events, answer := .nothing }
            ∧ exec (.bankIllegal c) s = .next { s with events := .diag .cfgBankCmd :: s.events, answer := .nothing })

/-- R136, R137, R138: EXP_WR by the expansion fitted; with Huffman the last command is re-applied. -/
def Obligations.ExpansionWriteResult : Prop :=
  ∀ (s : State) (v : Byte),
    (s.straps.huffmanRam = true →
        ∃ t, exec (.expWr v) s = .next t
          ∧ t = { s with
              bank := { s.bank with bankBase := t.bank.bankBase, bankOffset0 := t.bank.bankOffset0, bankOffset1 := t.bank.bankOffset1 }
              answer := .nothing }
          ∧ t.bank.bankBase.toNat = v.toNat % 32 * 0x10000
          ∧ t.bank.bankOffset0.toNat =
              (match s.bank.lastCmd with
               | .c6 => v.toNat % 32 * 0x10000
               | .c7 => 0x8000 + v.toNat % 32 * 0x10000
               | _ => 0)
          ∧ t.bank.bankOffset1.toNat =
              (match s.bank.lastCmd with
               | .c2 => 0x8000
               | .c3 => 0x8000 + v.toNat % 32 * 0x10000
               | _ => 0))
      ∧ (s.straps.huffmanRam = false → s.straps.supermem = true →
          ∃ t, exec (.expWr v) s = .next t
            ∧ t = { s with bank := { s.bank with bankBase := t.bank.bankBase }, answer := .nothing }
            ∧ t.bank.bankBase.toNat = v.toNat % 16 * 0x8000)
      ∧ (s.straps.huffmanRam = false → s.straps.supermem = false →
          exec (.expWr v) s = .next { s with answer := .nothing })

/-- R139 with R106: EXP_RD answers the base's bits for the fitted expansion, else 0xFF, and reads back what EXP_WR
wrote. -/
def Obligations.ExpansionReadsBack : Prop :=
  (∀ s : State,
      ∃ b : Byte, exec .expRd s = .next { s with answer := .byte b }
        ∧ (s.straps.huffmanRam = true → b.toNat = s.bank.bankBase.toNat / 0x10000 % 32)
        ∧ (s.straps.huffmanRam = false → s.straps.supermem = true → b.toNat = s.bank.bankBase.toNat / 0x8000 % 16)
        ∧ (s.straps.huffmanRam = false → s.straps.supermem = false → b = 0xFF#8))
    ∧ (∀ (s : State) (v : Byte),
        ∃ t b, exec (.expWr v) s = .next t ∧ exec .expRd t = .next { t with answer := .byte b }
          ∧ (s.straps.huffmanRam = true → b.toNat = v.toNat % 32)
          ∧ (s.straps.huffmanRam = false → s.straps.supermem = true → b.toNat = v.toNat % 16))

/-- R141: SEL_WR sets the selector register and the base by the formula, and the sub-mode follows; without the card, or
on another variant, nothing changes. -/
def Obligations.SelectorWriteResult : Prop :=
  ∀ (s : State) (v : Byte),
    (s.model = .a → s.straps.selectorEnabled = true →
        ∃ t, exec (.selWr v) s = .next t
          ∧ t = { s with bank := { s.bank with selectorReg := v, bankBase := t.bank.bankBase }, answer := .nothing }
          ∧ t.bank.bankBase.toNat =
              (if v.getLsbD 3 then 0x8000 + (v.extractLsb' 4 2).toNat * 0x8000 + (if v.getLsbD 0 then 0x8000 else 0) else 0)
          ∧ t.mode.code = 0x10#7 ||| (v.extractLsb' 0 3).zeroExtend 7)
      ∧ (s.model ≠ .a ∨ s.straps.selectorEnabled = false → exec (.selWr v) s = .next { s with answer := .nothing })

/-- R145: ROMLD stores below `ROM_MAX` and moves `rom_size`, else reports and stores nothing. -/
def Obligations.RomLoadResult : Prop :=
  ∀ (s : State) (a : Addr) (v : Byte),
    (a.toNat < 0x3800 →
        ∃ t, exec (.romld a v) s = .next t ∧ t = { s with rom := t.rom, romSize := t.romSize, answer := .nothing }
          ∧ t.romSize.val = max s.romSize.val (a.toNat + 1)
          ∧ ∀ o, t.romByte o = if o = a.toNat then v else s.romByte o)
      ∧ (0x3800 ≤ a.toNat →
          exec (.romld a v) s = .next { s with events := .diag .cfgRomRange :: s.events, answer := .nothing })

/-- R23, R145: nothing but ROMLD writes `rom` or `rom_size`. -/
def Obligations.OnlyRomldWritesRom : Prop :=
  ∀ (i : Instr) (s t : State), exec i s = .next t → (∀ a v, i ≠ .romld a v) → t.rom = s.rom ∧ t.romSize = s.romSize

/-- R370: RESET sets every register and slot, and keeps the straps, the storages and the images. -/
def Obligations.ResetResult : Prop :=
  ∀ s : State,
    exec .reset s = .next
      { s with
        bank :=
          { mapSel := 0#2, romin := decide (s.model = .d), selectorReg := 0x00#8, bankOffset0 := 0#21,
            bankOffset1 := 0#21, bankBase := if s.model = .c ∨ s.model = .d then 0x10000#21 else 0#21, lastCmd := .c0,
            videoPage := .page0 }
        hdc :=
          { control := 0x00#8, data := 0x00#8, error := 0x00#8, seccnt := 0x00#8, secnum := 0x00#8, status := 0x00#8,
            command := 0x00#8, cyl := 0x0000#16, drive := 0#3, head := 0#4, bytesdone := 0 }
        drv :=
          ⟨⟨false, false, 0, 0, 0, 0⟩, ⟨false, false, 0, 0, 0, 0⟩, ⟨false, false, 0, 0, 0, 0⟩,
            ⟨false, false, 0, 0, 0, 0⟩⟩
        answer := .nothing }

/-! ### Port cycles -/

/-- R146, R104: the MEMDEC ports are calls of the side-band operations in the configurations that have them; elsewhere
a write is ignored and a read is not this hardware's. -/
def Obligations.MemdecPortCycles : Prop :=
  ∀ (s : State) (v : Byte),
    let ignored : Host.Outcome State Fault Refusal := .next { s with answer := .nothing }
    let notMine : Host.Outcome State Fault Refusal := .next { s with answer := .notMine }
    let cd := s.model = .c ∨ s.model = .d
    (cd → ∃ t u w, exec (.videoPage (v.getLsbD 7)) s = .next t
        ∧ exec (.bankCmd ((v.extractLsb' 4 3).zeroExtend 8)) t = .next u
        ∧ exec (.mapSel (v.extractLsb' 0 2)) u = .next w ∧ exec (.iowrBankreg v) s = .next w)
      ∧ (¬cd → exec (.iowrBankreg v) s = ignored)
      ∧ (s.model = .d → ∃ t, exec (.setRomin (v.getLsbD 0)) s = .next t ∧ exec (.iowrRomctl v) s = .next t)
      ∧ (s.model ≠ .d → exec (.iowrRomctl v) s = ignored)
      ∧ (cd → ∃ t u, exec (.expWr v) s = .next t ∧ exec (.iowrExpansionCd v) s = .next t
          ∧ exec .expRd s = .next u ∧ exec .iordExpansionCd s = .next u)
      ∧ (¬cd → exec (.iowrExpansionCd v) s = ignored ∧ exec .iordExpansionCd s = notMine)
      ∧ (s.model = .a → ∃ t u, exec (.expWr v) s = .next t ∧ exec (.iowrExpansionA v) s = .next t
          ∧ exec .expRd s = .next u ∧ exec .iordExpansionA s = .next u)
      ∧ (s.model ≠ .a → exec (.iowrExpansionA v) s = ignored ∧ exec .iordExpansionA s = notMine)
      ∧ (s.model = .a → s.straps.selectorEnabled = true →
          ∃ t, exec (.selWr v) s = .next t ∧ exec (.iowrSelector v) s = .next t)
      ∧ (s.model ≠ .a ∨ s.straps.selectorEnabled = false → exec (.iowrSelector v) s = ignored)

/-- R231, R232: the generic port operations dispatch on the port as the port rows say, for every port; a port without a
row is not this hardware's. -/
def Obligations.GenericPortCyclesAgree : Prop :=
  ∀ (s : State) (p v : Byte),
    exec (decodeIord p) s = exec (.iord p) s
      ∧ exec (decodeIowr p v) s = exec (.iowr p v) s
      ∧ (p ∉ [0x43#8, 0x94#8, 0xC0#8, 0xC1#8, 0xC8#8, 0xC9#8, 0xCA#8, 0xCB#8, 0xCC#8, 0xCD#8, 0xCE#8, 0xCF#8] →
          exec (.iord p) s = .next { s with answer := .notMine })
      ∧ (p ∉ [0x1F#8, 0x43#8, 0x84#8, 0x94#8, 0x9C#8, 0xC0#8, 0xC1#8, 0xC8#8, 0xC9#8, 0xCA#8, 0xCB#8, 0xCC#8, 0xCD#8,
            0xCE#8, 0xCF#8] →
          exec (.iowr p v) s = .next { s with answer := .nothing })

/-- R253, R256 to R262: the HDC ports whose read has no side effect. -/
def Obligations.HdcRegisterReads : Prop :=
  ∀ s : State,
    let answers (b : Byte) : Host.Outcome State Fault Refusal := .next { s with answer := .byte b }
    exec .iordControl s = answers s.hdc.control
      ∧ exec .iordError s = answers s.hdc.error
      ∧ exec .iordSeccnt s = answers s.hdc.seccnt
      ∧ exec .iordSecnum s = answers s.hdc.secnum
      ∧ exec .iordStatus s = answers s.hdc.status
      ∧ exec .iordCyllo s = answers (BitVec.ofNat 8 (s.hdc.cyl.toNat % 256))
      ∧ exec .iordCylhi s = answers (BitVec.ofNat 8 (s.hdc.cyl.toNat / 256))
      ∧ exec .iordSdh s = answers (BitVec.ofNat 8 (s.hdc.drive.toNat % 4 * 8 + s.hdc.head.toNat % 8))

/-- R252, R256 to R261, R263: the HDC ports that a write stores into, the ignored ones, the soft reset, and the
drive-head select with its report. -/
def Obligations.HdcRegisterWrites : Prop :=
  ∀ (s : State) (v : Byte),
    let ignored : Host.Outcome State Fault Refusal := .next { s with answer := .nothing }
    exec (.iowrWp v) s = ignored
      ∧ exec (.iowrPrecomp v) s = ignored
      ∧ exec (.iowrSeccnt v) s = .next { s with hdc := { s.hdc with seccnt := v }, answer := .nothing }
      ∧ exec (.iowrSecnum v) s = .next { s with hdc := { s.hdc with secnum := v }, answer := .nothing }
      ∧ exec (.iowrCyllo v) s =
          .next { s with hdc := { s.hdc with cyl := (s.hdc.cyl &&& 0xFF00#16) ||| v.zeroExtend 16 }, answer := .nothing }
      ∧ exec (.iowrCylhi v) s =
          .next { s with hdc := { s.hdc with cyl := (v.zeroExtend 16 <<< 8) ||| (s.hdc.cyl &&& 0x00FF#16) }, answer := .nothing }
      ∧ exec (.iowrSdh v) s = .next
          { s with
            hdc := { s.hdc with drive := (v.extractLsb' 3 2).zeroExtend 3, head := (v.extractLsb' 0 3).zeroExtend 4 }
            events := if v.extractLsb' 5 2 = 0#2 then s.events else .diag .cfgSizeBits :: s.events
            answer := .nothing }
      ∧ (v.getLsbD 4 = false →
          exec (.iowrControl v) s = .next { s with hdc := { s.hdc with control := v }, answer := .nothing })
      ∧ (v.getLsbD 4 = true →
          exec (.iowrControl v) s = .next
            { s with
              hdc :=
                { control := v, data := 0x00#8, error := 0x00#8, seccnt := 0x00#8, secnum := 0x00#8, status := 0x00#8,
                  command := 0x00#8, cyl := 0x0000#16, drive := 0#3, head := 0#4, bytesdone := 0 }
              drv :=
                ⟨⟨false, false, 0, 0, 0, 0⟩, ⟨false, false, 0, 0, 0, 0⟩, ⟨false, false, 0, 0, 0, 0⟩,
                  ⟨false, false, 0, 0, 0, 0⟩⟩
              answer := .nothing })

/-- R251: the WP read opens every slot, answers bit 7 - d for slot d's write protection and zeros below, and leaves the
error of a failed open, whatever later opens do. -/
def Obligations.WriteProtectRead : Prop :=
  ∀ s : State, ∃ t b, exec .iordWp s = .next t ∧ t.answer = .byte b
    ∧ b.getLsbD 7 = t.drv.d0.writeprot ∧ b.getLsbD 6 = t.drv.d1.writeprot
    ∧ b.getLsbD 5 = t.drv.d2.writeprot ∧ b.getLsbD 4 = t.drv.d3.writeprot ∧ b.extractLsb' 0 4 = 0#4
    ∧ (∀ d, t.drv.get d = (s.openSlot d).2.drv.get d)
    ∧ ((∀ d, (s.openSlot d).1 = true) → t.hdc = s.hdc ∧ t.events = s.events)
    ∧ ((∃ d, (s.openSlot d).1 = false) → t.hdc = { s.hdc with status := 0x01#8, error := 0x10#8 })
    ∧ t = { s with drv := t.drv, hdc := t.hdc, events := t.events, answer := t.answer }

/-! ### The controller -/

/-- R324 to R327: the open step: nothing for an open slot; a missing medium, a bad header and a bad geometry close the
slot and latch "not found", the last two with a report; success fills the record and leaves status and error. -/
def Obligations.OpenStepResult : Prop :=
  ∀ (s : State) (d : SlotId),
    let failed : State :=
      { s with
        drv := s.drv.set d ⟨false, false, 0, 0, 0, 0⟩, hdc := { s.hdc with status := 0x01#8, error := 0x10#8 } }
    ((s.drv.get d).isOpen = true → s.openSlot d = (true, s))
      ∧ ((s.drv.get d).isOpen = false → s.media.get d = none → s.openSlot d = (false, failed))
      ∧ ∀ img, (s.drv.get d).isOpen = false → s.media.get d = some img →
          let fetchFails := img.len < 256 ∨ ∃ pos, pos < 256 ∧ IoFaultAt.mk d .read pos ∈ s.ioFaults
          let goodHeader := img.byteAt d 0 = 0x56#8 ∧ img.byteAt d 1 = 0xCB#8 ∧ img.byteAt d 2 = 0x10#8
          let field := (img.byteAt d 29).toNat
          let spt := s.straps.sectorsPerTrack
          let goodGeometry := field % spt = 0 ∧ 1 ≤ field / spt ∧ field / spt ≤ 8
          (fetchFails ∨ ¬goodHeader →
              s.openSlot d = (false, { failed with events := .diag .cfgBadHeader :: s.events }))
            ∧ (¬fetchFails → goodHeader → ¬goodGeometry →
                s.openSlot d = (false, { failed with events := .diag .cfgBadGeometry :: s.events }))
            ∧ (¬fetchFails → goodHeader → goodGeometry →
                s.openSlot d =
                  (true,
                    { s with
                      drv := s.drv.set d
                        { isOpen := true
                          writeprot := decide (img.access = .ro) || (img.byteAt d 7).getLsbD 7
                          cylinders := if img.byteAt d 28 = 0#8 then 256 else (img.byteAt d 28).toNat
                          heads := field / spt
                          sectorsPerTrack := spt
                          fpos := 256 } }))

/-- R282, R284, R287, R288, R298: the commands that do not locate a sector. -/
def Obligations.CommandsWithoutLocate : Prop :=
  ∀ (s : State) (low : BitVec 4) (low3 : BitVec 3) (low7 : BitVec 7),
    let started (v : Byte) : Hdc := { s.hdc with bytesdone := 0, command := v }
    exec (.restore low) s = .next
        { s with hdc := { started (1#4 ++ low) with cyl := 0#16, status := 0x40#8, error := 0x00#8 }, answer := .nothing }
      ∧ exec (.readDma low3) s = .next
          { s with
            hdc := { started (5#5 ++ low3) with status := 0x01#8, error := 0x04#8 }
            events := .diag .protoDma :: s.events, answer := .nothing }
      ∧ exec (.writeDma low3) s = .next
          { s with
            hdc := { started (7#5 ++ low3) with status := 0x01#8, error := 0x04#8 }
            events := .diag .protoDma :: s.events, answer := .nothing }
      ∧ exec (.format low) s = .next
          { s with
            hdc := { started (5#4 ++ low) with status := 0x40#8, error := 0x00#8 }
            events :=
              if s.hdc.seccnt.toNat = s.straps.sectorsPerTrack ∧ s.hdc.secnum = 0x0F#8 then s.events
              else .diag .cfgFormatParams :: s.events
            answer := .nothing }
      ∧ exec (.init low) s = .next
          { s with
            hdc := { started (6#4 ++ low) with status := 0x40#8, error := 0x00#8 }
            events := .diag .protoInit :: s.events, answer := .nothing }
      ∧ exec (.unknown0 low) s = .next
          { s with
            hdc := started (0#4 ++ low), events := .diag .protoUnknownCmd :: s.events, answer := .nothing }
      ∧ exec (.unknown8F low7) s = .next
          { s with
            hdc := started (1#1 ++ low7), events := .diag .protoUnknownCmd :: s.events, answer := .nothing }

/-- R290, R291, R292 in READ, WRITE, VERIFY and SEEK (R283, R285, R286, R289): open, then the head and sector range,
then the position; `fpos` keeps its value on failure and the cylinder is not checked. -/
def Obligations.LocatingCommands : Prop :=
  ∀ (s : State) (d : SlotId) (low : BitVec 4) (low3 : BitVec 3) (i : Instr) (v st : Byte),
    slotOfDrive s.hdc.drive = some d →
    (i, v, st) ∈ [(Instr.read low3, (4#5 ++ low3 : Byte), 0x48#8), (.write low3, 6#5 ++ low3, 0x48#8),
      (.verify low, 4#4 ++ low, 0x40#8), (.seek low, 7#4 ++ low, 0x40#8)] →
      let o := ({ s with hdc := { s.hdc with bytesdone := 0, command := v } } : State).openSlot d
      let x := o.2.drv.get d
      (o.1 = false → exec i s = .next { o.2 with answer := .nothing } ∧ o.2.hdc.status = 0x01#8 ∧ o.2.hdc.error = 0x10#8)
        ∧ (o.1 = true → x.heads ≤ s.hdc.head.toNat ∨ x.sectorsPerTrack ≤ s.hdc.secnum.toNat →
            exec i s = .next { o.2 with hdc := { o.2.hdc with status := 0x01#8, error := 0x10#8 }, answer := .nothing })
        ∧ (o.1 = true → s.hdc.head.toNat < x.heads → s.hdc.secnum.toNat < x.sectorsPerTrack →
            exec i s = .next
              { o.2 with
                drv := o.2.drv.set d
                  { x with
                    fpos := 256 + 256 * (s.hdc.cyl.toNat * x.heads * x.sectorsPerTrack
                      + s.hdc.head.toNat * x.sectorsPerTrack + s.hdc.secnum.toNat) }
                hdc := { o.2.hdc with status := st, error := 0x00#8 }
                answer := .nothing })

/-- R280: a COMMAND write runs the command of its byte's row, sets `bytesdone` to 0 and stores the byte, for every
byte. -/
def Obligations.CommandPortRunsRow : Prop :=
  ∀ (s : State) (v : Byte),
    exec (.iowrCommand v) s = exec (decodeCommandByte v) s
      ∧ (s.hdc.drive.getLsbD 2 = false →
          ∃ t, exec (.iowrCommand v) s = .next t ∧ t.hdc.bytesdone = 0 ∧ t.hdc.command = v)

/-- R293, R294, R300: a data read of an active READ without error fetches one byte, a failed fetch (a closed slot, a
position past the end, a failing medium) delivering an unspecified byte and no error; any other data read returns the
register. -/
def Obligations.DataReadResult : Prop :=
  ∀ (s : State) (d : SlotId),
    let active := s.hdc.command.extractLsb' 4 4 = 2#4 ∧ s.hdc.status.getLsbD 0 = false ∧ s.hdc.bytesdone < 256
    let x := s.drv.get d
    let moved : PerDrive Slot := if x.isOpen then s.drv.set d { x with fpos := x.fpos + 1 } else s.drv
    let fails := IoFaultAt.mk d .read x.fpos ∈ s.ioFaults
    (¬active → exec .iordData s = .next { s with answer := .byte s.hdc.data })
      ∧ (active → slotOfDrive s.hdc.drive = some d →
          (∀ img, x.isOpen = true → s.media.get d = some img → x.fpos < img.len → ¬fails →
              exec .iordData s = .next
                { s with
                  drv := moved
                  hdc := { s.hdc with data := img.byteAt d x.fpos, bytesdone := s.hdc.bytesdone + 1 }
                  answer := .byte (img.byteAt d x.fpos) })
            ∧ (x.isOpen = false ∨ fails ∨ (∀ img, s.media.get d = some img → img.len ≤ x.fpos) →
                ∃ b n, exec .iordData s = .next
                  { s with
                    drv := moved
                    hdc := { s.hdc with data := b, bytesdone := s.hdc.bytesdone + 1 }
                    draws := n
                    answer := .byte b }))

/-- R295, R297: a data write outside an active WRITE only sets the register; in an active WRITE on a writable medium
that does not fail it stores the byte at the position, and the third byte of sector (0, 0, 0) at header byte 31 too;
status and error stay. The path does not look at ERR (R384). -/
def Obligations.DataWriteStores : Prop :=
  ∀ (s : State) (d : SlotId) (v : Byte) (img : Image),
    let active := s.hdc.command.extractLsb' 4 4 = 3#4 ∧ s.hdc.bytesdone < 256
    let x := s.drv.get d
    let quirk := s.hdc.cyl = 0#16 ∧ s.hdc.head = 0#4 ∧ s.hdc.secnum = 0#8 ∧ s.hdc.bytesdone = 2
    (¬active → exec (.iowrData v) s = .next { s with hdc := { s.hdc with data := v }, answer := .nothing })
      ∧ (active → slotOfDrive s.hdc.drive = some d → x.isOpen = true → s.media.get d = some img → img.access = .rw →
          NoFaultOn s d →
            ∃ t img', exec (.iowrData v) s = .next t
              ∧ t = { s with
                  media := s.media.set d (some img')
                  drv := s.drv.set d { x with fpos := x.fpos + 1 }
                  hdc := { s.hdc with data := v, bytesdone := s.hdc.bytesdone + 1 }
                  answer := .nothing }
              ∧ img'.access = img.access
              ∧ img'.len = max (if quirk then max img.len 32 else img.len) (x.fpos + 1)
              ∧ ∀ pos, img'.byteAt d pos =
                  if pos = x.fpos then v else if quirk ∧ pos = 31 then v else img.byteAt d pos)

/-- R296, R300: in an active WRITE any media operation that fails (the byte, the quirk's copy, the flush after the last
byte) gives ERR_DATA; the counter and the position of an open slot advance, the command stays, and where no write
succeeds no image changes. -/
def Obligations.DataWriteFailure : Prop :=
  ∀ (s : State) (d : SlotId) (v : Byte),
    let x := s.drv.get d
    let takes (pos : Nat) : Prop :=
      x.isOpen = true ∧ IoFaultAt.mk d .write pos ∉ s.ioFaults ∧ ∃ img, s.media.get d = some img ∧ img.access = .rw
    let quirk := s.hdc.cyl = 0#16 ∧ s.hdc.head = 0#4 ∧ s.hdc.secnum = 0#8 ∧ s.hdc.bytesdone = 2
    let flushFails := x.isOpen = false ∨ IoFaultAt.mk d .flush 0 ∈ s.ioFaults
    s.hdc.command.extractLsb' 4 4 = 3#4 → s.hdc.bytesdone < 256 → slotOfDrive s.hdc.drive = some d →
      ¬takes x.fpos ∨ (quirk ∧ ¬takes 31) ∨ (s.hdc.bytesdone = 255 ∧ flushFails) →
        ∃ t, exec (.iowrData v) s = .next t
          ∧ t = { s with
              media := t.media
              drv := if x.isOpen then s.drv.set d { x with fpos := x.fpos + 1 } else s.drv
              hdc := { s.hdc with data := v, bytesdone := s.hdc.bytesdone + 1, status := 0x01#8, error := 0x40#8 }
              answer := .nothing }
          ∧ (¬takes x.fpos → ¬(quirk ∧ takes 31) → t.media = s.media)

/-- R299: status and error after any operation are what the sequencer's table gives. -/
def Obligations.HdcStatusTable : Prop :=
  ∀ (i : Instr) (s t : State), i.wellFormed = true → exec i s = .next t → StatusRow i s t

/-- R40: `bytesdone` is set to 0 by a command write or a reset, and else only moves by one, in an active READ or WRITE
that has not reached 256. -/
def Obligations.BytesdoneProgress : Prop :=
  ∀ (i : Instr) (s t : State), i.wellFormed = true → exec i s = .next t →
    t.hdc.bytesdone = s.hdc.bytesdone ∨ t.hdc.bytesdone = 0
      ∨ (t.hdc.bytesdone = s.hdc.bytesdone + 1 ∧ s.hdc.bytesdone < 256
          ∧ ((i = .iordData ∧ s.hdc.command.extractLsb' 4 4 = 2#4)
              ∨ ((∃ v, i = .iowrData v) ∧ s.hdc.command.extractLsb' 4 4 = 3#4)))

/-- R1, R373: the blocks share no state: an operation of the HDC leaves MEMDEC's state, and any other operation but
RESET leaves the HDC's, the media included. -/
def Obligations.BlocksShareNoState : Prop :=
  ∀ (i : Instr) (s t : State), i.wellFormed = true → exec i s = .next t →
    (isHdcOperation i = true →
        t.model = s.model ∧ t.ram = s.ram ∧ t.rom = s.rom ∧ t.romSize = s.romSize ∧ t.video = s.video ∧ t.bank = s.bank)
      ∧ (isHdcOperation i = false → i ≠ .reset → t.hdc = s.hdc ∧ t.drv = s.drv ∧ t.media = s.media)

/-! ### Invariants and headline results -/

/-- The invariant holds after power-on of every legal configuration whose images are canonical, and so at
`State.reset` (R49, R50; the configuration of `State.reset` is the model's choice, log 4). -/
def Obligations.InvariantAfterPowerOn : Prop :=
  MachineInv State.reset
    ∧ ∀ (m : Model) (x : Straps) (media : PerDrive (Option Image)) (faults : List IoFaultAt),
        legalConfiguration m x = true →
        (∀ d img, media.get d = some img → img.bytes.wf = true ∧ img.bytes.below img.len = true) →
          MachineInv (.powerOn m x media faults)

/-- Every step keeps the invariant: R34 (its first half but with Supermem or the selector card, log 14), R28, R47, R51, R26, R29, R33, and the canonical form of the stores. -/
def Obligations.InvariantKeptByStep : Prop := ∀ s t : State, MachineInv s → step s = .next t → MachineInv t

/-- R340: from a state of the invariant no operation, well-formed or not, and no step faults. -/
def Obligations.NoFaultUnderInvariant : Prop :=
  ∀ s : State, MachineInv s → NotFault (step s) ∧ ∀ i : Instr, NotFault (exec i s)

/-- The first half of R34 read literally ("At every point between operations", on every variant): it is expected to
FAIL on variant A with Supermem or the selector card, where EXP_WR and SEL_WR move the base and re-apply nothing (R138,
R141; log 14). -/
def Obligations.OffsetsMatchTableOnEveryVariant : Prop :=
  ∀ (s t : State) (i : Instr), MachineInv s → OffsetsMatchTable s → exec i s = .next t → OffsetsMatchTable t

/-- R330: no step ever changes a byte of an image's header but byte 31, nor shortens an image, nor changes its access;
and a slot that stays open keeps its geometry. -/
def Obligations.HeaderAndGeometryKept : Prop :=
  ∀ (s t : State) (d : SlotId), MachineInv s → step s = .next t →
    (∀ img, s.media.get d = some img →
        ∃ img', t.media.get d = some img' ∧ img'.access = img.access ∧ img.len ≤ img'.len
          ∧ ∀ pos, pos < 256 → pos ≠ 31 → img'.byteAt d pos = img.byteAt d pos)
      ∧ ((s.drv.get d).isOpen = true → (t.drv.get d).isOpen = true →
          (t.drv.get d).cylinders = (s.drv.get d).cylinders ∧ (t.drv.get d).heads = (s.drv.get d).heads
            ∧ (t.drv.get d).sectorsPerTrack = (s.drv.get d).sectorsPerTrack)

/-- W2 (R283, R285, R293, R295, R297, R324): 256 bytes written to a sector of a writable medium are read back, byte for
byte, by a READ of the same sector; both commands and the whole transfer report no error. The slot may be open before the
WRITE, or closed: then the WRITE opens it, and head and sector are held against the geometry it reads. -/
def Obligations.SectorRoundTrip : Prop :=
  ∀ (s : State) (d : SlotId) (img : Image) (bytes : List Byte) (lw lr : BitVec 3),
    slotOfDrive s.hdc.drive = some d → (s.openSlot d).1 = true → s.media.get d = some img → img.access = .rw →
    NoFaultOn s d → s.hdc.head.toNat < ((s.openSlot d).2.drv.get d).heads →
    s.hdc.secnum.toNat < ((s.openSlot d).2.drv.get d).sectorsPerTrack →
    bytes.length = 256 →
      ∃ w r, execAll (.write lw :: bytes.map .iowrData) s = .next w ∧ w.hdc.status = 0x48#8 ∧ w.hdc.bytesdone = 256
        ∧ exec (.read lr) w = .next r ∧ r.hdc.status = 0x48#8
        ∧ ∀ (k : Nat) (hk : k < bytes.length),
            ∃ t, execAll (List.replicate (k + 1) .iordData) r = .next t ∧ t.answer = .byte bytes[k] ∧ t.hdc.status = 0x48#8
end

