-- ==== Sys2Proof/Laws/State.lean ====
section
/-! SUPPORT. One lemma per field per named update of State, each true by `rfl`, so that no proof unfolds an update. -/

namespace Sys2Proof.Machine

section setStatus
variable (s : State) (x y : Byte)
@[simp] theorem State.setStatus_model : (s.setStatus x y).model = s.model := rfl
@[simp] theorem State.setStatus_straps : (s.setStatus x y).straps = s.straps := rfl
@[simp] theorem State.setStatus_ioFaults : (s.setStatus x y).ioFaults = s.ioFaults := rfl
@[simp] theorem State.setStatus_ram : (s.setStatus x y).ram = s.ram := rfl
@[simp] theorem State.setStatus_rom : (s.setStatus x y).rom = s.rom := rfl
@[simp] theorem State.setStatus_romSize : (s.setStatus x y).romSize = s.romSize := rfl
@[simp] theorem State.setStatus_video : (s.setStatus x y).video = s.video := rfl
@[simp] theorem State.setStatus_bank : (s.setStatus x y).bank = s.bank := rfl
@[simp] theorem State.setStatus_hdc : (s.setStatus x y).hdc = { s.hdc with status := x, error := y } := rfl
@[simp] theorem State.setStatus_drv : (s.setStatus x y).drv = s.drv := rfl
@[simp] theorem State.setStatus_media : (s.setStatus x y).media = s.media := rfl
@[simp] theorem State.setStatus_pending : (s.setStatus x y).pending = s.pending := rfl
@[simp] theorem State.setStatus_answer : (s.setStatus x y).answer = s.answer := rfl
@[simp] theorem State.setStatus_events : (s.setStatus x y).events = s.events := rfl
@[simp] theorem State.setStatus_draws : (s.setStatus x y).draws = s.draws := rfl
end setStatus

section setReady
variable (s : State)
@[simp] theorem State.setReady_model : (s.setReady).model = s.model := rfl
@[simp] theorem State.setReady_straps : (s.setReady).straps = s.straps := rfl
@[simp] theorem State.setReady_ioFaults : (s.setReady).ioFaults = s.ioFaults := rfl
@[simp] theorem State.setReady_ram : (s.setReady).ram = s.ram := rfl
@[simp] theorem State.setReady_rom : (s.setReady).rom = s.rom := rfl
@[simp] theorem State.setReady_romSize : (s.setReady).romSize = s.romSize := rfl
@[simp] theorem State.setReady_video : (s.setReady).video = s.video := rfl
@[simp] theorem State.setReady_bank : (s.setReady).bank = s.bank := rfl
@[simp] theorem State.setReady_hdc : (s.setReady).hdc = { s.hdc with status := stReady, error := errNone } := rfl
@[simp] theorem State.setReady_drv : (s.setReady).drv = s.drv := rfl
@[simp] theorem State.setReady_media : (s.setReady).media = s.media := rfl
@[simp] theorem State.setReady_pending : (s.setReady).pending = s.pending := rfl
@[simp] theorem State.setReady_answer : (s.setReady).answer = s.answer := rfl
@[simp] theorem State.setReady_events : (s.setReady).events = s.events := rfl
@[simp] theorem State.setReady_draws : (s.setReady).draws = s.draws := rfl
end setReady

section setReadyDrq
variable (s : State)
@[simp] theorem State.setReadyDrq_model : (s.setReadyDrq).model = s.model := rfl
@[simp] theorem State.setReadyDrq_straps : (s.setReadyDrq).straps = s.straps := rfl
@[simp] theorem State.setReadyDrq_ioFaults : (s.setReadyDrq).ioFaults = s.ioFaults := rfl
@[simp] theorem State.setReadyDrq_ram : (s.setReadyDrq).ram = s.ram := rfl
@[simp] theorem State.setReadyDrq_rom : (s.setReadyDrq).rom = s.rom := rfl
@[simp] theorem State.setReadyDrq_romSize : (s.setReadyDrq).romSize = s.romSize := rfl
@[simp] theorem State.setReadyDrq_video : (s.setReadyDrq).video = s.video := rfl
@[simp] theorem State.setReadyDrq_bank : (s.setReadyDrq).bank = s.bank := rfl
@[simp] theorem State.setReadyDrq_hdc : (s.setReadyDrq).hdc = { s.hdc with status := stReadyDrq, error := errNone } := rfl
@[simp] theorem State.setReadyDrq_drv : (s.setReadyDrq).drv = s.drv := rfl
@[simp] theorem State.setReadyDrq_media : (s.setReadyDrq).media = s.media := rfl
@[simp] theorem State.setReadyDrq_pending : (s.setReadyDrq).pending = s.pending := rfl
@[simp] theorem State.setReadyDrq_answer : (s.setReadyDrq).answer = s.answer := rfl
@[simp] theorem State.setReadyDrq_events : (s.setReadyDrq).events = s.events := rfl
@[simp] theorem State.setReadyDrq_draws : (s.setReadyDrq).draws = s.draws := rfl
end setReadyDrq

section setError
variable (s : State) (c : Byte)
@[simp] theorem State.setError_model : (s.setError c).model = s.model := rfl
@[simp] theorem State.setError_straps : (s.setError c).straps = s.straps := rfl
@[simp] theorem State.setError_ioFaults : (s.setError c).ioFaults = s.ioFaults := rfl
@[simp] theorem State.setError_ram : (s.setError c).ram = s.ram := rfl
@[simp] theorem State.setError_rom : (s.setError c).rom = s.rom := rfl
@[simp] theorem State.setError_romSize : (s.setError c).romSize = s.romSize := rfl
@[simp] theorem State.setError_video : (s.setError c).video = s.video := rfl
@[simp] theorem State.setError_bank : (s.setError c).bank = s.bank := rfl
@[simp] theorem State.setError_hdc : (s.setError c).hdc = { s.hdc with status := stError, error := c } := rfl
@[simp] theorem State.setError_drv : (s.setError c).drv = s.drv := rfl
@[simp] theorem State.setError_media : (s.setError c).media = s.media := rfl
@[simp] theorem State.setError_pending : (s.setError c).pending = s.pending := rfl
@[simp] theorem State.setError_answer : (s.setError c).answer = s.answer := rfl
@[simp] theorem State.setError_events : (s.setError c).events = s.events := rfl
@[simp] theorem State.setError_draws : (s.setError c).draws = s.draws := rfl
end setError

section reply
variable (s : State) (x : Answer)
@[simp] theorem State.reply_model : (s.reply x).model = s.model := rfl
@[simp] theorem State.reply_straps : (s.reply x).straps = s.straps := rfl
@[simp] theorem State.reply_ioFaults : (s.reply x).ioFaults = s.ioFaults := rfl
@[simp] theorem State.reply_ram : (s.reply x).ram = s.ram := rfl
@[simp] theorem State.reply_rom : (s.reply x).rom = s.rom := rfl
@[simp] theorem State.reply_romSize : (s.reply x).romSize = s.romSize := rfl
@[simp] theorem State.reply_video : (s.reply x).video = s.video := rfl
@[simp] theorem State.reply_bank : (s.reply x).bank = s.bank := rfl
@[simp] theorem State.reply_hdc : (s.reply x).hdc = s.hdc := rfl
@[simp] theorem State.reply_drv : (s.reply x).drv = s.drv := rfl
@[simp] theorem State.reply_media : (s.reply x).media = s.media := rfl
@[simp] theorem State.reply_pending : (s.reply x).pending = s.pending := rfl
@[simp] theorem State.reply_answer : (s.reply x).answer = x := rfl
@[simp] theorem State.reply_events : (s.reply x).events = s.events := rfl
@[simp] theorem State.reply_draws : (s.reply x).draws = s.draws := rfl
end reply

section emit
variable (s : State) (e : Event)
@[simp] theorem State.emit_model : (s.emit e).model = s.model := rfl
@[simp] theorem State.emit_straps : (s.emit e).straps = s.straps := rfl
@[simp] theorem State.emit_ioFaults : (s.emit e).ioFaults = s.ioFaults := rfl
@[simp] theorem State.emit_ram : (s.emit e).ram = s.ram := rfl
@[simp] theorem State.emit_rom : (s.emit e).rom = s.rom := rfl
@[simp] theorem State.emit_romSize : (s.emit e).romSize = s.romSize := rfl
@[simp] theorem State.emit_video : (s.emit e).video = s.video := rfl
@[simp] theorem State.emit_bank : (s.emit e).bank = s.bank := rfl
@[simp] theorem State.emit_hdc : (s.emit e).hdc = s.hdc := rfl
@[simp] theorem State.emit_drv : (s.emit e).drv = s.drv := rfl
@[simp] theorem State.emit_media : (s.emit e).media = s.media := rfl
@[simp] theorem State.emit_pending : (s.emit e).pending = s.pending := rfl
@[simp] theorem State.emit_answer : (s.emit e).answer = s.answer := rfl
@[simp] theorem State.emit_events : (s.emit e).events = e :: s.events := rfl
@[simp] theorem State.emit_draws : (s.emit e).draws = s.draws := rfl
end emit

section report
variable (s : State) (c : DiagCode)
@[simp] theorem State.report_model : (s.report c).model = s.model := rfl
@[simp] theorem State.report_straps : (s.report c).straps = s.straps := rfl
@[simp] theorem State.report_ioFaults : (s.report c).ioFaults = s.ioFaults := rfl
@[simp] theorem State.report_ram : (s.report c).ram = s.ram := rfl
@[simp] theorem State.report_rom : (s.report c).rom = s.rom := rfl
@[simp] theorem State.report_romSize : (s.report c).romSize = s.romSize := rfl
@[simp] theorem State.report_video : (s.report c).video = s.video := rfl
@[simp] theorem State.report_bank : (s.report c).bank = s.bank := rfl
@[simp] theorem State.report_hdc : (s.report c).hdc = s.hdc := rfl
@[simp] theorem State.report_drv : (s.report c).drv = s.drv := rfl
@[simp] theorem State.report_media : (s.report c).media = s.media := rfl
@[simp] theorem State.report_pending : (s.report c).pending = s.pending := rfl
@[simp] theorem State.report_answer : (s.report c).answer = s.answer := rfl
@[simp] theorem State.report_events : (s.report c).events = .diag c :: s.events := rfl
@[simp] theorem State.report_draws : (s.report c).draws = s.draws := rfl
end report

section draw
variable (s : State)
@[simp] theorem State.draw_model : (s.draw).model = s.model := rfl
@[simp] theorem State.draw_straps : (s.draw).straps = s.straps := rfl
@[simp] theorem State.draw_ioFaults : (s.draw).ioFaults = s.ioFaults := rfl
@[simp] theorem State.draw_ram : (s.draw).ram = s.ram := rfl
@[simp] theorem State.draw_rom : (s.draw).rom = s.rom := rfl
@[simp] theorem State.draw_romSize : (s.draw).romSize = s.romSize := rfl
@[simp] theorem State.draw_video : (s.draw).video = s.video := rfl
@[simp] theorem State.draw_bank : (s.draw).bank = s.bank := rfl
@[simp] theorem State.draw_hdc : (s.draw).hdc = s.hdc := rfl
@[simp] theorem State.draw_drv : (s.draw).drv = s.drv := rfl
@[simp] theorem State.draw_media : (s.draw).media = s.media := rfl
@[simp] theorem State.draw_pending : (s.draw).pending = s.pending := rfl
@[simp] theorem State.draw_answer : (s.draw).answer = s.answer := rfl
@[simp] theorem State.draw_events : (s.draw).events = s.events := rfl
@[simp] theorem State.draw_draws : (s.draw).draws = s.draws + 1 := rfl
end draw

section setRam
variable (s : State) (o : Nat) (v : Byte)
@[simp] theorem State.setRam_model : (s.setRam o v).model = s.model := rfl
@[simp] theorem State.setRam_straps : (s.setRam o v).straps = s.straps := rfl
@[simp] theorem State.setRam_ioFaults : (s.setRam o v).ioFaults = s.ioFaults := rfl
@[simp] theorem State.setRam_ram : (s.setRam o v).ram = s.ram.store o v := rfl
@[simp] theorem State.setRam_rom : (s.setRam o v).rom = s.rom := rfl
@[simp] theorem State.setRam_romSize : (s.setRam o v).romSize = s.romSize := rfl
@[simp] theorem State.setRam_video : (s.setRam o v).video = s.video := rfl
@[simp] theorem State.setRam_bank : (s.setRam o v).bank = s.bank := rfl
@[simp] theorem State.setRam_hdc : (s.setRam o v).hdc = s.hdc := rfl
@[simp] theorem State.setRam_drv : (s.setRam o v).drv = s.drv := rfl
@[simp] theorem State.setRam_media : (s.setRam o v).media = s.media := rfl
@[simp] theorem State.setRam_pending : (s.setRam o v).pending = s.pending := rfl
@[simp] theorem State.setRam_answer : (s.setRam o v).answer = s.answer := rfl
@[simp] theorem State.setRam_events : (s.setRam o v).events = s.events := rfl
@[simp] theorem State.setRam_draws : (s.setRam o v).draws = s.draws := rfl
end setRam

section setVideo
variable (s : State) (o : Nat) (v : Byte)
@[simp] theorem State.setVideo_model : (s.setVideo o v).model = s.model := rfl
@[simp] theorem State.setVideo_straps : (s.setVideo o v).straps = s.straps := rfl
@[simp] theorem State.setVideo_ioFaults : (s.setVideo o v).ioFaults = s.ioFaults := rfl
@[simp] theorem State.setVideo_ram : (s.setVideo o v).ram = s.ram := rfl
@[simp] theorem State.setVideo_rom : (s.setVideo o v).rom = s.rom := rfl
@[simp] theorem State.setVideo_romSize : (s.setVideo o v).romSize = s.romSize := rfl
@[simp] theorem State.setVideo_video : (s.setVideo o v).video = s.video.store o v := rfl
@[simp] theorem State.setVideo_bank : (s.setVideo o v).bank = s.bank := rfl
@[simp] theorem State.setVideo_hdc : (s.setVideo o v).hdc = s.hdc := rfl
@[simp] theorem State.setVideo_drv : (s.setVideo o v).drv = s.drv := rfl
@[simp] theorem State.setVideo_media : (s.setVideo o v).media = s.media := rfl
@[simp] theorem State.setVideo_pending : (s.setVideo o v).pending = s.pending := rfl
@[simp] theorem State.setVideo_answer : (s.setVideo o v).answer = s.answer := rfl
@[simp] theorem State.setVideo_events : (s.setVideo o v).events = s.events := rfl
@[simp] theorem State.setVideo_draws : (s.setVideo o v).draws = s.draws := rfl
end setVideo

section setSlot
variable (s : State) (d : SlotId) (x : Slot)
@[simp] theorem State.setSlot_model : (s.setSlot d x).model = s.model := rfl
@[simp] theorem State.setSlot_straps : (s.setSlot d x).straps = s.straps := rfl
@[simp] theorem State.setSlot_ioFaults : (s.setSlot d x).ioFaults = s.ioFaults := rfl
@[simp] theorem State.setSlot_ram : (s.setSlot d x).ram = s.ram := rfl
@[simp] theorem State.setSlot_rom : (s.setSlot d x).rom = s.rom := rfl
@[simp] theorem State.setSlot_romSize : (s.setSlot d x).romSize = s.romSize := rfl
@[simp] theorem State.setSlot_video : (s.setSlot d x).video = s.video := rfl
@[simp] theorem State.setSlot_bank : (s.setSlot d x).bank = s.bank := rfl
@[simp] theorem State.setSlot_hdc : (s.setSlot d x).hdc = s.hdc := rfl
@[simp] theorem State.setSlot_drv : (s.setSlot d x).drv = s.drv.set d x := rfl
@[simp] theorem State.setSlot_media : (s.setSlot d x).media = s.media := rfl
@[simp] theorem State.setSlot_pending : (s.setSlot d x).pending = s.pending := rfl
@[simp] theorem State.setSlot_answer : (s.setSlot d x).answer = s.answer := rfl
@[simp] theorem State.setSlot_events : (s.setSlot d x).events = s.events := rfl
@[simp] theorem State.setSlot_draws : (s.setSlot d x).draws = s.draws := rfl
end setSlot

section setFpos
variable (s : State) (d : SlotId) (p : Nat)
@[simp] theorem State.setFpos_model : (s.setFpos d p).model = s.model := rfl
@[simp] theorem State.setFpos_straps : (s.setFpos d p).straps = s.straps := rfl
@[simp] theorem State.setFpos_ioFaults : (s.setFpos d p).ioFaults = s.ioFaults := rfl
@[simp] theorem State.setFpos_ram : (s.setFpos d p).ram = s.ram := rfl
@[simp] theorem State.setFpos_rom : (s.setFpos d p).rom = s.rom := rfl
@[simp] theorem State.setFpos_romSize : (s.setFpos d p).romSize = s.romSize := rfl
@[simp] theorem State.setFpos_video : (s.setFpos d p).video = s.video := rfl
@[simp] theorem State.setFpos_bank : (s.setFpos d p).bank = s.bank := rfl
@[simp] theorem State.setFpos_hdc : (s.setFpos d p).hdc = s.hdc := rfl
@[simp] theorem State.setFpos_drv : (s.setFpos d p).drv = s.drv.set d { s.drv.get d with fpos := p } := rfl
@[simp] theorem State.setFpos_media : (s.setFpos d p).media = s.media := rfl
@[simp] theorem State.setFpos_pending : (s.setFpos d p).pending = s.pending := rfl
@[simp] theorem State.setFpos_answer : (s.setFpos d p).answer = s.answer := rfl
@[simp] theorem State.setFpos_events : (s.setFpos d p).events = s.events := rfl
@[simp] theorem State.setFpos_draws : (s.setFpos d p).draws = s.draws := rfl
end setFpos

section setImage
variable (s : State) (d : SlotId) (i : Image)
@[simp] theorem State.setImage_model : (s.setImage d i).model = s.model := rfl
@[simp] theorem State.setImage_straps : (s.setImage d i).straps = s.straps := rfl
@[simp] theorem State.setImage_ioFaults : (s.setImage d i).ioFaults = s.ioFaults := rfl
@[simp] theorem State.setImage_ram : (s.setImage d i).ram = s.ram := rfl
@[simp] theorem State.setImage_rom : (s.setImage d i).rom = s.rom := rfl
@[simp] theorem State.setImage_romSize : (s.setImage d i).romSize = s.romSize := rfl
@[simp] theorem State.setImage_video : (s.setImage d i).video = s.video := rfl
@[simp] theorem State.setImage_bank : (s.setImage d i).bank = s.bank := rfl
@[simp] theorem State.setImage_hdc : (s.setImage d i).hdc = s.hdc := rfl
@[simp] theorem State.setImage_drv : (s.setImage d i).drv = s.drv := rfl
@[simp] theorem State.setImage_media : (s.setImage d i).media = s.media.set d (some i) := rfl
@[simp] theorem State.setImage_pending : (s.setImage d i).pending = s.pending := rfl
@[simp] theorem State.setImage_answer : (s.setImage d i).answer = s.answer := rfl
@[simp] theorem State.setImage_events : (s.setImage d i).events = s.events := rfl
@[simp] theorem State.setImage_draws : (s.setImage d i).draws = s.draws := rfl
end setImage

section setBank
variable (s : State) (b : Bank)
@[simp] theorem State.setBank_model : (s.setBank b).model = s.model := rfl
@[simp] theorem State.setBank_straps : (s.setBank b).straps = s.straps := rfl
@[simp] theorem State.setBank_ioFaults : (s.setBank b).ioFaults = s.ioFaults := rfl
@[simp] theorem State.setBank_ram : (s.setBank b).ram = s.ram := rfl
@[simp] theorem State.setBank_rom : (s.setBank b).rom = s.rom := rfl
@[simp] theorem State.setBank_romSize : (s.setBank b).romSize = s.romSize := rfl
@[simp] theorem State.setBank_video : (s.setBank b).video = s.video := rfl
@[simp] theorem State.setBank_bank : (s.setBank b).bank = b := rfl
@[simp] theorem State.setBank_hdc : (s.setBank b).hdc = s.hdc := rfl
@[simp] theorem State.setBank_drv : (s.setBank b).drv = s.drv := rfl
@[simp] theorem State.setBank_media : (s.setBank b).media = s.media := rfl
@[simp] theorem State.setBank_pending : (s.setBank b).pending = s.pending := rfl
@[simp] theorem State.setBank_answer : (s.setBank b).answer = s.answer := rfl
@[simp] theorem State.setBank_events : (s.setBank b).events = s.events := rfl
@[simp] theorem State.setBank_draws : (s.setBank b).draws = s.draws := rfl
end setBank

section setData
variable (s : State) (v : Byte)
@[simp] theorem State.setData_model : (s.setData v).model = s.model := rfl
@[simp] theorem State.setData_straps : (s.setData v).straps = s.straps := rfl
@[simp] theorem State.setData_ioFaults : (s.setData v).ioFaults = s.ioFaults := rfl
@[simp] theorem State.setData_ram : (s.setData v).ram = s.ram := rfl
@[simp] theorem State.setData_rom : (s.setData v).rom = s.rom := rfl
@[simp] theorem State.setData_romSize : (s.setData v).romSize = s.romSize := rfl
@[simp] theorem State.setData_video : (s.setData v).video = s.video := rfl
@[simp] theorem State.setData_bank : (s.setData v).bank = s.bank := rfl
@[simp] theorem State.setData_hdc : (s.setData v).hdc = { s.hdc with data := v } := rfl
@[simp] theorem State.setData_drv : (s.setData v).drv = s.drv := rfl
@[simp] theorem State.setData_media : (s.setData v).media = s.media := rfl
@[simp] theorem State.setData_pending : (s.setData v).pending = s.pending := rfl
@[simp] theorem State.setData_answer : (s.setData v).answer = s.answer := rfl
@[simp] theorem State.setData_events : (s.setData v).events = s.events := rfl
@[simp] theorem State.setData_draws : (s.setData v).draws = s.draws := rfl
end setData

section startCommand
variable (s : State) (v : Byte)
@[simp] theorem State.startCommand_model : (s.startCommand v).model = s.model := rfl
@[simp] theorem State.startCommand_straps : (s.startCommand v).straps = s.straps := rfl
@[simp] theorem State.startCommand_ioFaults : (s.startCommand v).ioFaults = s.ioFaults := rfl
@[simp] theorem State.startCommand_ram : (s.startCommand v).ram = s.ram := rfl
@[simp] theorem State.startCommand_rom : (s.startCommand v).rom = s.rom := rfl
@[simp] theorem State.startCommand_romSize : (s.startCommand v).romSize = s.romSize := rfl
@[simp] theorem State.startCommand_video : (s.startCommand v).video = s.video := rfl
@[simp] theorem State.startCommand_bank : (s.startCommand v).bank = s.bank := rfl
@[simp] theorem State.startCommand_hdc : (s.startCommand v).hdc = { s.hdc with bytesdone := 0, command := v } := rfl
@[simp] theorem State.startCommand_drv : (s.startCommand v).drv = s.drv := rfl
@[simp] theorem State.startCommand_media : (s.startCommand v).media = s.media := rfl
@[simp] theorem State.startCommand_pending : (s.startCommand v).pending = s.pending := rfl
@[simp] theorem State.startCommand_answer : (s.startCommand v).answer = s.answer := rfl
@[simp] theorem State.startCommand_events : (s.startCommand v).events = s.events := rfl
@[simp] theorem State.startCommand_draws : (s.startCommand v).draws = s.draws := rfl
end startCommand

section resetHdc
variable (s : State)
@[simp] theorem State.resetHdc_model : (s.resetHdc).model = s.model := rfl
@[simp] theorem State.resetHdc_straps : (s.resetHdc).straps = s.straps := rfl
@[simp] theorem State.resetHdc_ioFaults : (s.resetHdc).ioFaults = s.ioFaults := rfl
@[simp] theorem State.resetHdc_ram : (s.resetHdc).ram = s.ram := rfl
@[simp] theorem State.resetHdc_rom : (s.resetHdc).rom = s.rom := rfl
@[simp] theorem State.resetHdc_romSize : (s.resetHdc).romSize = s.romSize := rfl
@[simp] theorem State.resetHdc_video : (s.resetHdc).video = s.video := rfl
@[simp] theorem State.resetHdc_bank : (s.resetHdc).bank = s.bank := rfl
@[simp] theorem State.resetHdc_hdc : (s.resetHdc).hdc = { control := 0#8, data := 0#8, error := 0#8, seccnt := 0#8, secnum := 0#8, status := 0#8, command := 0#8, cyl := 0#16, drive := 0#3, head := 0#4, bytesdone := 0 } := rfl
@[simp] theorem State.resetHdc_drv : (s.resetHdc).drv = { d0 := .closed, d1 := .closed, d2 := .closed, d3 := .closed } := rfl
@[simp] theorem State.resetHdc_media : (s.resetHdc).media = s.media := rfl
@[simp] theorem State.resetHdc_pending : (s.resetHdc).pending = s.pending := rfl
@[simp] theorem State.resetHdc_answer : (s.resetHdc).answer = s.answer := rfl
@[simp] theorem State.resetHdc_events : (s.resetHdc).events = s.events := rfl
@[simp] theorem State.resetHdc_draws : (s.resetHdc).draws = s.draws := rfl
end resetHdc

end Sys2Proof.Machine
end

