-- ==== Sys2Proof/Laws/Bank.lean ====
section
/-! SUPPORT. What the mode-selection and bank-switch operations can do, said once: they touch the bank state and the
events only (40_bank_switch.md). -/

namespace Sys2Proof.Machine

/-- `t` differs from `s` in the bank state and the events only. -/
def BankFrame (s t : State) : Prop := t = { s with bank := t.bank, events := t.events }

theorem BankFrame.refl (s : State) : BankFrame s s := rfl

theorem BankFrame.trans {s t u : State} (h : BankFrame s t) (k : BankFrame t u) : BankFrame s u := by
  unfold BankFrame at *; rw [k, h]

/-- A banking command is legal and selects, or illegal and is reported (R133, R135). -/
theorem State.bankCommand_cases (s : State) (c : Byte) :
    (∃ k, bankCommandOf c = some k ∧ s.bankCommand c = s.selectBank k)
    ∨ (bankCommandOf c = none ∧ s.bankCommand c = s.report .cfgBankCmd) := by
  unfold State.bankCommand
  rcases h : bankCommandOf c with _ | k
  · exact .inr ⟨rfl, rfl⟩
  · exact .inl ⟨k, rfl, rfl⟩

theorem State.bankCommand_frame (s : State) (c : Byte) : BankFrame s (s.bankCommand c) := by
  rcases s.bankCommand_cases c with ⟨k, -, e⟩ | ⟨-, e⟩ <;> rw [e] <;> rfl

theorem State.setRominOp_frame (s : State) (b : Bool) : BankFrame s (s.setRominOp b) := by
  unfold State.setRominOp; split <;> rfl

theorem State.mapSelect_frame (s : State) (n : BitVec 2) : BankFrame s (s.mapSelect n) := by
  unfold State.mapSelect; split <;> rfl

theorem State.expansionWrite_frame (s : State) (v : Byte) : BankFrame s (s.expansionWrite v) := by
  unfold State.expansionWrite; repeat' split
  all_goals rfl

theorem State.selectorWrite_frame (s : State) (v : Byte) : BankFrame s (s.selectorWrite v) := by
  unfold State.selectorWrite; split <;> rfl

theorem State.bankregWrite_frame (s : State) (v : Byte) : BankFrame s (s.bankregWrite v) :=
  (BankFrame.trans (t := s.setVideoPage (bankregPage v)) rfl (State.bankCommand_frame _ _)).trans
    (State.mapSelect_frame _ _)

/-- Each model id names its variant, and no other number names one (R2, R130). -/
theorem modelOfId_modelId (m : Model) : modelOfId ((modelId m).zeroExtend 8) = some m := by
  cases m <;> rfl

/-- The Huffman base has its low 16 bits clear and its high five as written (R137). -/
theorem huffmanBase_toNat (v : Byte) : (huffmanBase v).toNat = v.toNat % 32 * 0x10000 := by
  revert v; decide

/-- The Supermem base in steps of 32 KiB (R138). -/
theorem supermemBase_toNat (v : Byte) : (supermemBase v).toNat = v.toNat % 16 * 0x8000 := by
  revert v; decide

end Sys2Proof.Machine
end

