-- ==== Sys2Proof/Laws/Memory.lean ====
section
/-! SUPPORT. Byte stores and per-drive records: read after write, and the canonical form that every store operation
keeps. -/

namespace Sys2Proof.Machine

@[simp] theorem Memory.lookup_nil (a : Nat) : Memory.lookup [] a = none := rfl

/-- A byte reads as last written, and a write leaves every other byte alone. -/
theorem Memory.lookup_store (m : Memory) (a b : Nat) (v : Byte) :
    (m.store a v).lookup b = if a = b then some v else m.lookup b := by
  induction m with
  | nil => simp [Memory.store, Memory.lookup]
  | cons c m ih =>
    obtain ⟨k, w⟩ := c
    simp only [Memory.store]
    split
    · simp [Memory.lookup]
    · split
      · subst_vars; simp only [Memory.lookup]; split <;> rfl
      · simp only [Memory.lookup, ih]; split <;> split <;> grind

@[simp] theorem Memory.lookup_store_same (m : Memory) (a : Nat) (v : Byte) : (m.store a v).lookup a = some v := by
  simp [Memory.lookup_store]

theorem Memory.lookup_store_ne (m : Memory) {a b : Nat} (v : Byte) (h : a ≠ b) :
    (m.store a v).lookup b = m.lookup b := by
  simp [Memory.lookup_store, h]

theorem Memory.rising_store (m : Memory) (a lo : Nat) (v : Byte) (h : Memory.rising lo m = true) (ha : lo ≤ a) :
    Memory.rising lo (m.store a v) = true := by
  induction m generalizing lo with
  | nil => simp [Memory.store, Memory.rising, ha]
  | cons c m ih =>
    obtain ⟨k, w⟩ := c
    simp only [Memory.rising, Bool.and_eq_true, decide_eq_true_eq] at h
    simp only [Memory.store]
    split
    · simp only [Memory.rising, Bool.and_eq_true, decide_eq_true_eq]
      exact ⟨ha, by omega, h.2⟩
    · split
      · subst_vars; simp only [Memory.rising, Bool.and_eq_true, decide_eq_true_eq]; exact ⟨ha, h.2⟩
      · simp only [Memory.rising, Bool.and_eq_true, decide_eq_true_eq]
        exact ⟨h.1, ih _ h.2 (by omega)⟩

/-- Every store keeps the canonical form. -/
theorem Memory.wf_store (m : Memory) (a : Nat) (v : Byte) (h : m.wf = true) : (m.store a v).wf = true :=
  Memory.rising_store m a 0 v h (Nat.zero_le a)

theorem Memory.below_store (m : Memory) (a n : Nat) (v : Byte) (h : m.below n = true) (ha : a < n) :
    (m.store a v).below n = true := by
  induction m with
  | nil => simp [Memory.store, Memory.below, ha]
  | cons c m ih =>
    obtain ⟨k, w⟩ := c
    simp only [Memory.below, List.all_cons, Bool.and_eq_true, decide_eq_true_eq] at h ih
    simp only [Memory.store]
    split
    · simp [Memory.below, ha, h.1, h.2]
    · split
      · simp [Memory.below, ha, h.2]
      · simp only [Memory.below, List.all_cons, Bool.and_eq_true, decide_eq_true_eq]
        exact ⟨h.1, ih h.2⟩

theorem Memory.below_mono (m : Memory) {n k : Nat} (h : m.below n = true) (hk : n ≤ k) : m.below k = true := by
  simp only [Memory.below, List.all_eq_true, decide_eq_true_eq] at *
  exact fun c hc => Nat.lt_of_lt_of_le (h c hc) hk

/-- The memories of the reset state are canonical. -/
theorem reset_memories_wf :
    State.reset.ram.wf = true ∧ State.reset.rom.wf = true ∧ State.reset.video.wf = true := by decide

theorem PerDrive.get_set {α : Type} (p : PerDrive α) (d e : SlotId) (x : α) :
    (p.set d x).get e = if d = e then x else p.get e := by
  cases d <;> cases e <;> simp [PerDrive.set, PerDrive.get]

@[simp] theorem PerDrive.get_set_same {α : Type} (p : PerDrive α) (d : SlotId) (x : α) : (p.set d x).get d = x := by
  simp [PerDrive.get_set]

theorem PerDrive.get_set_ne {α : Type} (p : PerDrive α) {d e : SlotId} (x : α) (h : d ≠ e) :
    (p.set d x).get e = p.get e := by
  simp [PerDrive.get_set, h]

@[simp] theorem PerDrive.set_set {α : Type} (p : PerDrive α) (d : SlotId) (x y : α) :
    (p.set d x).set d y = p.set d y := by
  cases d <;> rfl

@[simp] theorem PerDrive.get_closed (d : SlotId) :
    PerDrive.get ⟨Slot.closed, Slot.closed, Slot.closed, Slot.closed⟩ d = Slot.closed := by
  cases d <;> rfl

theorem State.ramByte_setRam (s : State) (o p : Nat) (v : Byte) :
    (s.setRam o v).ramByte p = if o = p then v else s.ramByte p := by
  simp only [State.ramByte, State.setRam, Memory.lookup_store]; split <;> rfl

theorem State.videoByte_setVideo (s : State) (o p : Nat) (v : Byte) :
    (s.setVideo o v).videoByte p = if o = p then v else s.videoByte p := by
  simp only [State.videoByte, State.setVideo, Memory.lookup_store]; split <;> rfl

theorem Image.byteAt_put (img : Image) (d : SlotId) (p q : Nat) (v : Byte) :
    (img.put p v).byteAt d q = if p = q then v else img.byteAt d q := by
  simp only [Image.byteAt, Image.put, Memory.lookup_store]; split <;> rfl

end Sys2Proof.Machine
end

