-- ==== Sys2Proof/Laws/Route.lean ====
section
/-! SUPPORT. What address decoding can answer (R62, R63), and that it looks only at the configuration, the ROM size and the
bank state. -/

namespace Sys2Proof.Machine
open Sys2Proof.Safety

theorem State.videoOffset_le (s : State) : s.videoOffset ≤ 0x400 := by
  unfold State.videoOffset; split <;> omega

theorem State.videoTarget_ok (s : State) (d : Nat) (rw : Dir) (h : d < 0x400) : TargetOk s rw (s.videoTarget d) := by
  have := s.videoOffset_le
  cases rw <;> simp [State.videoTarget, TargetOk, inRange, allows] <;> omega

theorem Target.unmapped_ok (s : State) (rw : Dir) : TargetOk s rw .unmapped := by
  cases rw <;> simp [Target.unmapped, TargetOk, inRange, allows]

theorem State.aram_region (s : State) (a o : Nat) : (s.aram a o).region = .ram := by
  unfold State.aram; split <;> rfl

theorem State.aram_ok (s : State) (a o : Nat) (rw : Dir) (h : o < 0x10000) : TargetOk s rw (s.aram a o) := by
  have hb : s.bank.bankBase.toNat < 2 ^ 21 := s.bank.bankBase.isLt
  unfold State.aram
  split <;> cases rw <;> simp [TargetOk, inRange, allows] <;> omega

theorem State.banked_ok (s : State) (a : Nat) (rw : Dir) (h : a < 0x10000) : TargetOk s rw (s.banked a) := by
  have h0 : s.bank.bankOffset0.toNat < 2 ^ 21 := s.bank.bankOffset0.isLt
  have h1 : s.bank.bankOffset1.toNat < 2 ^ 21 := s.bank.bankOffset1.isLt
  unfold State.banked
  split <;> cases rw <;> simp [TargetOk, inRange, allows] <;> omega

theorem kbdTarget_ok (s : State) (d : Nat) (rw : Dir) (h : d < 0x400) : TargetOk s rw (kbdTarget d rw) := by
  cases rw <;> simp [kbdTarget, Target.unmapped, TargetOk, inRange, allows, h]

theorem romTarget_ok (s : State) (a : Nat) (rw : Dir) (h : a < s.romSize.val) : TargetOk s rw (romTarget a rw) := by
  cases rw <;> simp [romTarget, Target.unmapped, TargetOk, inRange, allows, h]

theorem State.ammio_ok (s : State) (m : Nat) (romvis : Bool) (rw : Dir) (h : m < 0x4000) : TargetOk s rw (s.ammio m romvis rw) := by
  have hm := Nat.mod_lt m (show 0 < 4 by decide)
  cases rw
  · simp only [State.ammio, State.ammioRd]
    repeat' split
    · exact s.videoTarget_ok _ _ (by omega)
    · simp [TargetOk, inRange, allows]
    · simp [TargetOk, inRange, allows, hm]
    · simp [TargetOk, inRange, allows, hm]
    · simp_all [TargetOk, inRange, allows]
    · simp [TargetOk, inRange, allows]; have := s.romSize.isLt; omega
    · exact Target.unmapped_ok s _
  · simp only [State.ammio, State.ammioWr]
    repeat' split
    · exact s.videoTarget_ok _ _ (by omega)
    · simp [TargetOk, inRange, allows]
    · simp [TargetOk, inRange, allows, hm]
    · simp [TargetOk, inRange, allows]
    · simp [TargetOk, inRange, allows, hm]
    · exact Target.unmapped_ok s _

theorem State.lowBlock_ok (s : State) (a : Nat) (rw : Dir) (h : a < 0x4000) : TargetOk s rw (s.lowBlock a rw) := by
  unfold State.lowBlock
  repeat' split
  · cases rw <;> simp [TargetOk, inRange, allows]
  · exact romTarget_ok s a rw (by assumption)
  · exact s.videoTarget_ok _ _ (by omega)
  · exact kbdTarget_ok s _ rw (by omega)
  · exact Target.unmapped_ok s _

theorem State.mirror_ok (s : State) (a : Nat) (rw : Dir) : TargetOk s rw (s.mirror a) := by
  have hm := Nat.mod_lt a (show 0 < 0x4000 by decide)
  unfold State.mirror
  split
  · exact Target.unmapped_ok s _
  · exact s.aram_ok _ _ _ (by omega)

theorem State.routeA_ok (s : State) (sub : BitVec 3) (a : Nat) (rw : Dir) (h : a < 0x10000) :
    TargetOk s rw (s.routeA sub a rw) := by
  have hm := Nat.mod_lt a (show 0 < 0x4000 by decide)
  unfold State.routeA
  repeat' split
  all_goals first
    | exact s.aram_ok _ _ _ h
    | exact s.ammio_ok _ _ _ (by omega)
    | exact s.mirror_ok _ _
    | exact Target.unmapped_ok s _

theorem State.routeMap0D_ok (s : State) (r : Bool) (a : Nat) (rw : Dir) (h : a < 0x10000) :
    TargetOk s rw (s.routeMap0D r a rw) := by
  unfold State.routeMap0D
  repeat' split
  · exact s.banked_ok _ _ h
  · cases rw <;> simp [TargetOk, inRange, allows]
  · rename_i h'; obtain ⟨-, rfl, h'⟩ := h'; simp [TargetOk, inRange, allows, h']
  · exact s.banked_ok _ _ h
  · exact Target.unmapped_ok s _
  · exact s.videoTarget_ok _ _ (by omega)
  · exact kbdTarget_ok s _ rw (by omega)

theorem State.routeMap1_ok (s : State) (r : Bool) (a : Nat) (rw : Dir) (h : a < 0x10000) :
    TargetOk s rw (s.routeMap1 r a rw) := by
  unfold State.routeMap1
  repeat' split
  · rename_i h'; obtain ⟨-, rfl, h'⟩ := h'; simp [TargetOk, inRange, allows, h']
  · exact s.banked_ok _ _ h
  · exact s.videoTarget_ok _ _ (by omega)
  · exact kbdTarget_ok s _ rw (by omega)

theorem State.routeMap2_ok (s : State) (a : Nat) (rw : Dir) (h : a < 0x10000) : TargetOk s rw (s.routeMap2 a rw) := by
  unfold State.routeMap2
  repeat' split
  · exact s.banked_ok _ _ h
  · exact kbdTarget_ok s _ rw (by omega)
  · exact Target.unmapped_ok s _
  · cases rw <;> simp [TargetOk, inRange, allows] <;> omega

/-- The decoder selects a target the region table allows, for every state, address and direction (R62, R63). -/
theorem State.route_ok (s : State) (a : Nat) (rw : Dir) (h : a < 0x10000) : TargetOk s rw (s.route a rw) := by
  unfold State.route
  split
  · exact s.routeA_ok _ _ _ h
  · unfold State.routeB
    split
    · cases rw <;> simp [TargetOk, inRange, allows] <;> omega
    · exact s.lowBlock_ok _ _ (by omega)
  · unfold State.routeC
    split
    · unfold State.routeMap0C
      split
      · exact s.banked_ok _ _ h
      · exact s.lowBlock_ok _ _ (by omega)
    · exact s.routeMap1_ok _ _ _ h
    · exact s.routeMap2_ok _ _ h
    · exact s.banked_ok _ _ h
  · unfold State.routeD
    split
    · exact s.routeMap0D_ok _ _ _ h
    · exact s.routeMap1_ok _ _ _ h
    · exact s.routeMap2_ok _ _ h
    · exact s.banked_ok _ _ h

/-- Two states that agree on the configuration, the ROM size and the bank state decode alike (R63: what `Decode` reads). -/
theorem State.route_congr {s t : State} (hm : t.model = s.model) (hs : t.straps = s.straps) (hr : t.romSize = s.romSize)
    (hb : t.bank = s.bank) (a : Nat) (rw : Dir) : t.route a rw = s.route a rw := by
  cases s; cases t; simp only at hm hs hr hb; subst hm hs hr hb; rfl

@[simp] theorem State.route_reply (s : State) (x : Answer) (a : Nat) (rw : Dir) : (s.reply x).route a rw = s.route a rw :=
  rfl

@[simp] theorem State.route_emit (s : State) (e : Event) (a : Nat) (rw : Dir) : (s.emit e).route a rw = s.route a rw := rfl

@[simp] theorem State.route_setRam (s : State) (o : Nat) (v : Byte) (a : Nat) (rw : Dir) :
    (s.setRam o v).route a rw = s.route a rw := rfl

@[simp] theorem State.route_setVideo (s : State) (o : Nat) (v : Byte) (a : Nat) (rw : Dir) :
    (s.setVideo o v).route a rw = s.route a rw := rfl

@[simp] theorem State.route_draw (s : State) (a : Nat) (rw : Dir) : s.draw.route a rw = s.route a rw := rfl

end Sys2Proof.Machine
end

