-- ==== Sys2Proof/Laws/Bus.lean ====
section
/-! SUPPORT. What the bus operations can do, said once: they touch the RAM and video stores, the events and the draw
counter, and keep the stores canonical and inside their sizes. -/

namespace Sys2Proof.Machine
open Sys2Proof.Safety

/-- The RAM and video stores of `t` are as good as those of `s`. -/
def KeepsStores (s t : State) : Prop :=
  (s.ram.wf = true → t.ram.wf = true) ∧ (s.ram.below 0x210000 = true → t.ram.below 0x210000 = true)
    ∧ (s.video.wf = true → t.video.wf = true) ∧ (s.video.below 0x800 = true → t.video.below 0x800 = true)

/-- `t` differs from `s` in the RAM and video stores, the events and the draw counter only. -/
def BusFrame (s t : State) : Prop :=
  t = { s with ram := t.ram, video := t.video, events := t.events, draws := t.draws } ∧ KeepsStores s t

theorem BusFrame.refl (s : State) : BusFrame s s := ⟨rfl, id, id, id, id⟩

theorem BusFrame.trans {s t u : State} (h : BusFrame s t) (k : BusFrame t u) : BusFrame s u := by
  obtain ⟨h1, h2, h3, h4, h5⟩ := h
  obtain ⟨k1, k2, k3, k4, k5⟩ := k
  refine ⟨?_, k2 ∘ h2, k3 ∘ h3, k4 ∘ h4, k5 ∘ h5⟩
  rw [k1, h1]

/-- A bus operation leaves decoding as it was. -/
theorem BusFrame.route {s t : State} (h : BusFrame s t) (a : Nat) (rw : Dir) : t.route a rw = s.route a rw := by
  rw [h.1]; rfl

/-- A byte read changes no storage: it can only draw a free value and tell a peripheral (R220, R223). -/
theorem State.readTarget_state (s : State) (t : Target) :
    (s.readTarget t).2 = s ∨ (s.readTarget t).2 = (s.draw).emit (.periphRead t.region t.off) := by
  unfold State.readTarget
  split <;> simp [State.periphRead]

theorem State.readTarget_frame (s : State) (t : Target) : BusFrame s (s.readTarget t).2 := by
  rcases s.readTarget_state t with h | h <;> rw [h]
  · exact .refl s
  · exact ⟨rfl, id, id, id, id⟩

theorem State.readByte_frame (s : State) (a : Addr) : BusFrame s (s.readByte a).2 := s.readTarget_frame _

/-- A byte read of a storage or of an unmapped address changes nothing (R68, R220). -/
theorem State.readTarget_storage (s : State) (t : Target)
    (h : t.region = .none ∨ t.region = .ram ∨ t.region = .rom ∨ t.region = .video) : (s.readTarget t).2 = s := by
  unfold State.readTarget
  rcases h with h | h | h | h <;> rw [h]

theorem State.videoWrite_frame (s : State) (o : Nat) (v : Byte) (h : o < 0x800) : BusFrame s (s.videoWrite o v) := by
  unfold State.videoWrite
  split
  · exact .refl s
  · refine ⟨rfl, id, id, fun k => Memory.wf_store _ _ _ k, fun k => Memory.below_store _ _ _ _ k h⟩

/-- After a video write the byte reads as written, whether the write was suppressed or not (R222). -/
theorem State.videoByte_videoWrite (s : State) (o p : Nat) (v : Byte) :
    (s.videoWrite o v).videoByte p = if o = p then v else s.videoByte p := by
  unfold State.videoWrite
  split
  · split
    · subst_vars; rfl
    · rfl
  · exact s.videoByte_setVideo o p v

/-- A byte write touches RAM, video or the events only (R221). -/
theorem State.writeTarget_frame (s : State) (t : Target) (v : Byte) (h : inRange s t) :
    BusFrame s (s.writeTarget t v) := by
  unfold State.writeTarget
  unfold inRange at h
  cases hr : t.region <;> rw [hr] at h
  case ram => exact ⟨rfl, fun k => Memory.wf_store _ _ _ k, fun k => Memory.below_store _ _ _ _ k h, id, id⟩
  case video => exact s.videoWrite_frame _ _ h
  all_goals exact ⟨rfl, id, id, id, id⟩

theorem State.writeByte_frame (s : State) (a : Addr) (v : Byte) : BusFrame s (s.writeByte a v) :=
  s.writeTarget_frame _ _ (s.route_ok _ _ a.isLt).1

theorem State.readWord_frame (s : State) (a : Addr) : BusFrame s (s.readWord a).2 :=
  (s.readByte_frame a).trans (State.readByte_frame _ _)

theorem State.writeWord_frame (s : State) (a w : Addr) : BusFrame s (s.writeWord a w) :=
  (s.writeByte_frame a _).trans (State.writeByte_frame _ _ _)

/-- BLOCK is a sequence of byte operations (R228). -/
theorem State.moveBytes_frame (dir : Direction) (n : Nat) (s : State) (dst src : Addr) (b : Byte) :
    BusFrame s (State.moveBytes dir n s dst src b).2 := by
  induction n generalizing s dst src b with
  | zero => exact .refl s
  | succ n ih =>
    exact ((s.readByte_frame src).trans (State.writeByte_frame _ _ _)).trans (ih _ _ _ _)

/-- Reading a byte does not look at the result of the operation before. -/
theorem State.readByte_reply (s : State) (x : Answer) (a : Addr) :
    (s.reply x).readByte a = ((s.readByte a).1, (s.readByte a).2.reply x) := by
  unfold State.readByte State.readTarget
  rw [State.route_reply]
  split <;> rfl

/-- Nor does writing one. -/
theorem State.writeByte_reply (s : State) (x : Answer) (a : Addr) (v : Byte) :
    (s.reply x).writeByte a v = (s.writeByte a v).reply x := by
  unfold State.writeByte State.writeTarget
  rw [State.route_reply]
  split <;> try rfl
  unfold State.videoWrite
  rw [show (s.reply x).videoByte = s.videoByte from rfl]
  split <;> rfl

@[simp] theorem State.reply_reply (s : State) (x y : Answer) : (s.reply x).reply y = s.reply y := rfl

/-! ### Views -/

/-- The run of R229: every address it counts continues the view, and it stops at the first that does not or at the end
of its fuel. -/
theorem State.viewRun_spec (s : State) (rw : Dir) (t : Target) (a fuel i : Nat) :
    s.viewRun rw t a fuel i ≤ fuel
      ∧ (∀ k, k < s.viewRun rw t a fuel i → s.viewTarget (a + (i + k)) rw = some ⟨t.region, t.off + (i + k)⟩)
      ∧ (s.viewRun rw t a fuel i < fuel →
          s.viewTarget (a + (i + s.viewRun rw t a fuel i)) rw
            ≠ some ⟨t.region, t.off + (i + s.viewRun rw t a fuel i)⟩) := by
  induction fuel generalizing i with
  | zero => simp [State.viewRun]
  | succ fuel ih =>
    unfold State.viewRun
    split
    · rename_i h
      obtain ⟨h1, h2, h3⟩ := ih (i + 1)
      refine ⟨by omega, fun k hk => ?_, fun hlt => ?_⟩
      · rcases k with _ | k
        · simpa using h
        · have := h2 k (by omega)
          rwa [show i + 1 + k = i + (k + 1) by omega] at this
      · have := h3 (by omega)
        rwa [show i + 1 + s.viewRun rw t a fuel (i + 1) = i + (s.viewRun rw t a fuel (i + 1) + 1) by omega] at this
    · rename_i h
      exact ⟨by omega, fun k hk => by omega, fun _ => by simpa using h⟩

end Sys2Proof.Machine
end

