-- ==== Sys2Proof/Laws/Decode.lean ====
section
/-! SUPPORT. The fields of a transaction word are read back as they were written (R91). -/

namespace Sys2Proof

/-- Decoding a transaction word is dispatching on its four fields. -/
theorem decode_transaction (k : BitVec 4) (h l d : Byte) : decode (transaction k h l d) = .ok (decodeKind k h l d) := by
  have e0 : (0#4 ++ k ++ h ++ l ++ d : BitVec 32).extractLsb' 28 4 = 0#4 := by
    ext i hi; simp; all_goals grind
  have e1 : ((0#4 ++ k ++ h ++ l ++ d : BitVec 32).extractLsb' 0 28).extractLsb' 24 4 = k := by
    ext i hi; simp; all_goals grind
  have e2 : ((0#4 ++ k ++ h ++ l ++ d : BitVec 32).extractLsb' 0 28).extractLsb' 16 8 = h := by
    ext i hi; simp; all_goals grind
  have e3 : ((0#4 ++ k ++ h ++ l ++ d : BitVec 32).extractLsb' 0 28).extractLsb' 8 8 = l := by
    ext i hi; simp; all_goals grind
  have e4 : ((0#4 ++ k ++ h ++ l ++ d : BitVec 32).extractLsb' 0 28).extractLsb' 0 8 = d := by
    ext i hi; simp; all_goals grind
  simp only [transaction, decode, e0, decodeTransaction, e1, e2, e3, e4, if_true]

/-- The two bytes of an address put together again. -/
theorem addr_bytes (a : Addr) : (a.extractLsb' 8 8 ++ a.extractLsb' 0 8 : Addr) = a := by
  ext i hi; simp; all_goals grind

/-- Decoding a word of format MEM (R95). -/
theorem decode_transactionMem (k : BitVec 4) (a : Addr) (d : Byte) :
    decode (transactionMem k a d) = .ok (decodeKind k (a.extractLsb' 8 8) (a.extractLsb' 0 8) d) :=
  decode_transaction _ _ _ _

end Sys2Proof
end

