-- ==== Sys2Proof/Laws/Hdc.lean ====
section
/-! SUPPORT. What the controller's shared operations can do, said once: the open step, locate, the media operations. -/

namespace Sys2Proof.Machine

/-- A drive register with bit 2 clear names a slot (R51, R39). -/
theorem slotOfDrive_isSome (d : BitVec 3) (h : d.getLsbD 2 = false) : ∃ x, slotOfDrive d = some x := by
  have : ∀ d : BitVec 3, d.getLsbD 2 = false → (slotOfDrive d).isSome = true := by decide
  exact Option.isSome_iff_exists.1 (this d h)

/-- What the SDH port puts into the drive register names a slot (R112). -/
theorem sdhDrive_bit2 (v : Byte) : (sdhDrive v).getLsbD 2 = false := by
  rw [sdhDrive, BitVec.getLsbD_append]; simp

theorem sdhHead_bit3 (v : Byte) : (sdhHead v).getLsbD 3 = false := by
  rw [sdhHead, BitVec.getLsbD_append]; simp

/-- The head count of a usable geometry (R326). -/
theorem headerHeads_some {spt : Nat} {f : Byte} {q : Nat} :
    headerHeads spt f = some q ↔ f.toNat % spt = 0 ∧ q = f.toNat / spt ∧ 1 ≤ q ∧ q ≤ 8 := by
  unfold headerHeads
  simp only [Config.maxHeads]
  split
  · simp; omega
  · simp; omega

theorem headerCylinders_range (f : Byte) : 1 ≤ headerCylinders f ∧ headerCylinders f ≤ 256 := by
  have := f.isLt
  unfold headerCylinders
  split
  · simp [Config.defaultCyls]
  · rename_i h
    have : f.toNat ≠ 0 := fun e => h (BitVec.eq_of_toNat_eq e)
    omega

@[simp] theorem State.openFail_drv (s : State) (d : SlotId) : (s.openFail d).drv = s.drv.set d .closed := rfl
@[simp] theorem State.openFail_hdc (s : State) (d : SlotId) :
    (s.openFail d).hdc = { s.hdc with status := stError, error := errNotFound } := rfl
@[simp] theorem State.openFail_media (s : State) (d : SlotId) : (s.openFail d).media = s.media := rfl

/-- Everything the open step can do (R324 to R327). -/
theorem State.openSlot_cases (s : State) (d : SlotId) :
    ((s.drv.get d).isOpen = true ∧ s.openSlot d = (true, s))
    ∨ ((s.drv.get d).isOpen = false ∧ s.media.get d = none ∧ s.openSlot d = (false, s.openFail d))
    ∨ (∃ img, (s.drv.get d).isOpen = false ∧ s.media.get d = some img
        ∧ (s.headerReadable d img && headerValid (img.byteAt d 0) (img.byteAt d 1) (img.byteAt d 2)) = false
        ∧ s.openSlot d = (false, (s.report .cfgBadHeader).openFail d))
    ∨ (∃ img, (s.drv.get d).isOpen = false ∧ s.media.get d = some img
        ∧ (s.headerReadable d img && headerValid (img.byteAt d 0) (img.byteAt d 1) (img.byteAt d 2)) = true
        ∧ headerHeads s.straps.sectorsPerTrack (img.byteAt d 29) = none
        ∧ s.openSlot d = (false, (s.report .cfgBadGeometry).openFail d))
    ∨ (∃ img heads, (s.drv.get d).isOpen = false ∧ s.media.get d = some img
        ∧ (s.headerReadable d img && headerValid (img.byteAt d 0) (img.byteAt d 1) (img.byteAt d 2)) = true
        ∧ headerHeads s.straps.sectorsPerTrack (img.byteAt d 29) = some heads
        ∧ s.openSlot d = (true, s.setSlot d (openedSlot s.straps.sectorsPerTrack d img heads))) := by
  unfold State.openSlot
  by_cases ho : (s.drv.get d).isOpen = true
  · simp [ho]
  · simp only [Bool.not_eq_true] at ho
    simp only [ho, Bool.false_eq_true, if_false]
    rcases hm : s.media.get d with _ | img
    · simp
    · simp only
      by_cases hv : (s.headerReadable d img && headerValid (img.byteAt d 0) (img.byteAt d 1) (img.byteAt d 2)) = true
      · rcases hh : headerHeads s.straps.sectorsPerTrack (img.byteAt d 29) with _ | heads
        · exact .inr (.inr (.inr (.inl ⟨img, trivial, rfl, hv, hh, by rw [if_pos hv]⟩)))
        · exact .inr (.inr (.inr (.inr ⟨img, heads, trivial, rfl, hv, hh, by rw [if_pos hv]⟩)))
      · exact .inr (.inr (.inl ⟨img, trivial, rfl, by simpa using hv, by rw [if_neg hv]⟩))

/-- The open step touches the slot's record, status and error, and the events only; it succeeds exactly when it leaves
the slot open, and then status and error are untouched (R324). -/
theorem State.openSlot_spec (s : State) (d : SlotId) :
    (∃ x h ev, (s.openSlot d).2 = { s with drv := s.drv.set d x, hdc := h, events := ev })
    ∧ (((s.openSlot d).2.drv.get d).isOpen = (s.openSlot d).1)
    ∧ ((s.openSlot d).1 = true → (s.openSlot d).2.hdc = s.hdc ∧ (s.openSlot d).2.events = s.events)
    ∧ ((s.openSlot d).1 = false →
        (s.openSlot d).2.hdc = { s.hdc with status := stError, error := errNotFound }
          ∧ (s.openSlot d).2.drv.get d = .closed) := by
  rcases s.openSlot_cases d with ⟨ho, e⟩ | ⟨ho, -, e⟩ | ⟨img, ho, -, -, e⟩ | ⟨img, ho, -, -, -, e⟩ | ⟨img, k, ho, -, -, -, e⟩ <;>
    rw [e] <;> simp only
  · refine ⟨⟨s.drv.get d, s.hdc, s.events, ?_⟩, ho, fun _ => ⟨trivial, trivial⟩, fun h => nomatch h⟩
    have : s.drv.set d (s.drv.get d) = s.drv := by cases d <;> rfl
    rw [this]
  all_goals
    refine ⟨⟨_, _, _, rfl⟩, ?_, ?_, ?_⟩ <;>
      simp [State.openFail, State.report, State.emit, State.setError, State.setStatus, State.setSlot, Slot.closed, openedSlot]

theorem PerDrive.set_get {α : Type} (p : PerDrive α) (d : SlotId) : p.set d (p.get d) = p := by cases d <;> rfl

/-- Everything a byte write to the medium can do (R322). -/
theorem State.mediaWrite_cases (s : State) (d : SlotId) (pos : Nat) (v : Byte) :
    s.mediaWrite d pos v = (false, s)
    ∨ ∃ img, (s.drv.get d).isOpen = true ∧ s.media.get d = some img ∧ img.access = .rw ∧ s.ioFault d .write pos = false
        ∧ s.mediaWrite d pos v = (true, s.setImage d (img.put pos v)) := by
  unfold State.mediaWrite
  by_cases ho : (s.drv.get d).isOpen = true
  · simp only [ho, if_true]
    rcases hm : s.media.get d with _ | img
    · simp
    · simp only
      by_cases ha : img.access = .ro
      · simp [ha]
      · by_cases hf : s.ioFault d .write pos = true
        · simp [ha, hf]
        · right
          refine ⟨img, trivial, rfl, ?_, by simpa using hf, by simp [ha, hf]⟩
          cases h : img.access
          · rfl
          · exact absurd h ha
  · simp only [Bool.not_eq_true] at ho
    simp [ho]

/-- Everything locate can do (R290 to R292). -/
theorem State.locate_cases (s : State) (d : SlotId) :
    ((s.openSlot d).1 = false ∧ s.locate d = (false, (s.openSlot d).2))
    ∨ ((s.openSlot d).1 = true ∧ (s.openSlot d).2.sectorInRange ((s.openSlot d).2.drv.get d) = false
        ∧ s.locate d = (false, (s.openSlot d).2.setError errNotFound))
    ∨ ((s.openSlot d).1 = true ∧ (s.openSlot d).2.sectorInRange ((s.openSlot d).2.drv.get d) = true
        ∧ s.locate d = (true, (s.openSlot d).2.setFpos d
            (sectorPos s.hdc.cyl.toNat s.hdc.head.toNat s.hdc.secnum.toNat ((s.openSlot d).2.drv.get d).heads
              ((s.openSlot d).2.drv.get d).sectorsPerTrack))) := by
  have hk := (s.openSlot_spec d).2.2.1
  unfold State.locate
  by_cases ho : (s.openSlot d).1 = true
  · by_cases hr : (s.openSlot d).2.sectorInRange ((s.openSlot d).2.drv.get d) = true
    · simp [ho, hr, (hk ho).1]
    · simp only [Bool.not_eq_true] at hr
      simp [ho, hr]
  · simp only [Bool.not_eq_true] at ho
    simp [ho]

@[simp] theorem State.advance_bytesdone (s : State) (d : SlotId) :
    (s.advance d).hdc = { s.hdc with bytesdone := s.hdc.bytesdone + 1 } := by
  unfold State.advance; split <;> rfl

@[simp] theorem State.advance_media (s : State) (d : SlotId) : (s.advance d).media = s.media := by
  unfold State.advance; split <;> rfl

/-- Progress moves the position of an open slot by one and touches nothing but it and the counter (R293, R295). -/
theorem State.advance_eq (s : State) (d : SlotId) :
    s.advance d =
      { s with
        drv := if (s.drv.get d).isOpen then s.drv.set d { s.drv.get d with fpos := (s.drv.get d).fpos + 1 } else s.drv
        hdc := { s.hdc with bytesdone := s.hdc.bytesdone + 1 } } := by
  unfold State.advance; split <;> rfl

/-- A command byte of the table's row is dispatched to that row's command (R115, R280). -/
theorem State.runCommand_opcode (s : State) (v : Byte) :
    s.runCommand v =
      if commandOpcode v = 1#4 then s.cmdRestore v
      else if commandOpcode v = 2#4 ∨ commandOpcode v = 3#4 then (if commandDma v then s.cmdDma v else s.cmdTransfer v)
      else if commandOpcode v = 4#4 ∨ commandOpcode v = 7#4 then s.cmdLocate v
      else if commandOpcode v = 5#4 then s.cmdFormat v
      else if commandOpcode v = 6#4 then s.cmdInit v
      else s.cmdUnknown v := by
  unfold State.runCommand
  generalize commandOpcode v = k
  generalize commandDma v = dma
  revert k
  intro k
  have h : k = 0#4 ∨ k = 1#4 ∨ k = 2#4 ∨ k = 3#4 ∨ k = 4#4 ∨ k = 5#4 ∨ k = 6#4 ∨ k = 7#4 ∨ 8 ≤ k.toNat := by
    revert k; decide
  rcases h with rfl | rfl | rfl | rfl | rfl | rfl | rfl | rfl | h <;> try rfl
  have hk : ∀ n < 8, k ≠ BitVec.ofNat 4 n := by
    intro n hn e
    rw [e] at h
    simp at h
    omega
  rw [if_neg (hk 1 (by omega)), if_neg (not_or.2 ⟨hk 2 (by omega), hk 3 (by omega)⟩),
    if_neg (not_or.2 ⟨hk 4 (by omega), hk 7 (by omega)⟩), if_neg (hk 5 (by omega)), if_neg (hk 6 (by omega))]
  split <;> first | rfl | (exfalso; omega)

end Sys2Proof.Machine
end

