-- ==== Sys2Proof/Laws/PerInstr.lean ====
section
/-! SUPPORT. Per instruction: its written form, where it is a transaction word, has 28 bits (R91). -/

namespace Sys2Proof.Laws

/-- The word `encode i` writes, if it writes one, leaves bits 31:28 of its four bytes zero (R91). -/
def TransactionWidth.Statement (i : Instr) : Prop := ∀ t, encode i = .word t → t.extractLsb' 28 4 = 0#4

theorem transaction_width (k : BitVec 4) (h l d : Byte) (t : BitVec 32) (e : transaction k h l d = .word t) :
    t.extractLsb' 28 4 = 0#4 := by
  simp only [transaction, Request.word.injEq] at e
  subst e
  ext i hi; simp; all_goals grind

theorem TransactionWidth.memrd (a : Addr) : TransactionWidth.Statement (.memrd a) := fun t e => transaction_width _ _ _ _ t e
theorem TransactionWidth.memwr (a : Addr) (v : Byte) : TransactionWidth.Statement (.memwr a v) := fun t e => transaction_width _ _ _ _ t e
theorem TransactionWidth.iord (p : Byte) : TransactionWidth.Statement (.iord p) := fun t e => transaction_width _ _ _ _ t e
theorem TransactionWidth.iowr (p v : Byte) : TransactionWidth.Statement (.iowr p v) := fun t e => transaction_width _ _ _ _ t e
theorem TransactionWidth.reset : TransactionWidth.Statement .reset := fun t e => transaction_width _ _ _ _ t e
theorem TransactionWidth.setModel (m : Byte) : TransactionWidth.Statement (.setModel m) := fun t e => transaction_width _ _ _ _ t e
theorem TransactionWidth.setRomin (b : Bool) : TransactionWidth.Statement (.setRomin b) := fun t e => transaction_width _ _ _ _ t e
theorem TransactionWidth.mapSel (n : BitVec 2) : TransactionWidth.Statement (.mapSel n) := fun t e => transaction_width _ _ _ _ t e
theorem TransactionWidth.bankCmd (c : Byte) : TransactionWidth.Statement (.bankCmd c) := fun t e => transaction_width _ _ _ _ t e
theorem TransactionWidth.videoPage (w : Bool) : TransactionWidth.Statement (.videoPage w) := fun t e => transaction_width _ _ _ _ t e
theorem TransactionWidth.expWr (v : Byte) : TransactionWidth.Statement (.expWr v) := fun t e => transaction_width _ _ _ _ t e
theorem TransactionWidth.expRd : TransactionWidth.Statement .expRd := fun t e => transaction_width _ _ _ _ t e
theorem TransactionWidth.selWr (v : Byte) : TransactionWidth.Statement (.selWr v) := fun t e => transaction_width _ _ _ _ t e
theorem TransactionWidth.romld (a : Addr) (v : Byte) : TransactionWidth.Statement (.romld a v) := fun t e => transaction_width _ _ _ _ t e
theorem TransactionWidth.viewrd (a : Addr) : TransactionWidth.Statement (.viewrd a) := fun t e => transaction_width _ _ _ _ t e
theorem TransactionWidth.viewwr (a : Addr) : TransactionWidth.Statement (.viewwr a) := fun t e => transaction_width _ _ _ _ t e
theorem TransactionWidth.reservedKind (rest : BitVec 27) : TransactionWidth.Statement (.reservedKind rest) := by
  intro t e
  simp only [encode, Request.word.injEq] at e
  subst e
  ext i hi; simp; all_goals grind
theorem TransactionWidth.reservedSb (number zero data : Byte) : TransactionWidth.Statement (.reservedSb number zero data) := fun t e => transaction_width _ _ _ _ t e
theorem TransactionWidth.iowrSelector (v : Byte) : TransactionWidth.Statement (.iowrSelector v) := fun t e => transaction_width _ _ _ _ t e
theorem TransactionWidth.iowrExpansionA (v : Byte) : TransactionWidth.Statement (.iowrExpansionA v) := fun t e => transaction_width _ _ _ _ t e
theorem TransactionWidth.iordExpansionA : TransactionWidth.Statement .iordExpansionA := fun t e => transaction_width _ _ _ _ t e
theorem TransactionWidth.iowrBankreg (v : Byte) : TransactionWidth.Statement (.iowrBankreg v) := fun t e => transaction_width _ _ _ _ t e
theorem TransactionWidth.iowrExpansionCd (v : Byte) : TransactionWidth.Statement (.iowrExpansionCd v) := fun t e => transaction_width _ _ _ _ t e
theorem TransactionWidth.iordExpansionCd : TransactionWidth.Statement .iordExpansionCd := fun t e => transaction_width _ _ _ _ t e
theorem TransactionWidth.iowrRomctl (v : Byte) : TransactionWidth.Statement (.iowrRomctl v) := fun t e => transaction_width _ _ _ _ t e
theorem TransactionWidth.iordWp : TransactionWidth.Statement .iordWp := fun t e => transaction_width _ _ _ _ t e
theorem TransactionWidth.iowrWp (v : Byte) : TransactionWidth.Statement (.iowrWp v) := fun t e => transaction_width _ _ _ _ t e
theorem TransactionWidth.iordControl : TransactionWidth.Statement .iordControl := fun t e => transaction_width _ _ _ _ t e
theorem TransactionWidth.iowrControl (v : Byte) : TransactionWidth.Statement (.iowrControl v) := fun t e => transaction_width _ _ _ _ t e
theorem TransactionWidth.iordData : TransactionWidth.Statement .iordData := fun t e => transaction_width _ _ _ _ t e
theorem TransactionWidth.iowrData (v : Byte) : TransactionWidth.Statement (.iowrData v) := fun t e => transaction_width _ _ _ _ t e
theorem TransactionWidth.iordError : TransactionWidth.Statement .iordError := fun t e => transaction_width _ _ _ _ t e
theorem TransactionWidth.iowrPrecomp (v : Byte) : TransactionWidth.Statement (.iowrPrecomp v) := fun t e => transaction_width _ _ _ _ t e
theorem TransactionWidth.iordSeccnt : TransactionWidth.Statement .iordSeccnt := fun t e => transaction_width _ _ _ _ t e
theorem TransactionWidth.iowrSeccnt (v : Byte) : TransactionWidth.Statement (.iowrSeccnt v) := fun t e => transaction_width _ _ _ _ t e
theorem TransactionWidth.iordSecnum : TransactionWidth.Statement .iordSecnum := fun t e => transaction_width _ _ _ _ t e
theorem TransactionWidth.iowrSecnum (v : Byte) : TransactionWidth.Statement (.iowrSecnum v) := fun t e => transaction_width _ _ _ _ t e
theorem TransactionWidth.iordCyllo : TransactionWidth.Statement .iordCyllo := fun t e => transaction_width _ _ _ _ t e
theorem TransactionWidth.iowrCyllo (v : Byte) : TransactionWidth.Statement (.iowrCyllo v) := fun t e => transaction_width _ _ _ _ t e
theorem TransactionWidth.iordCylhi : TransactionWidth.Statement .iordCylhi := fun t e => transaction_width _ _ _ _ t e
theorem TransactionWidth.iowrCylhi (v : Byte) : TransactionWidth.Statement (.iowrCylhi v) := fun t e => transaction_width _ _ _ _ t e
theorem TransactionWidth.iordSdh : TransactionWidth.Statement .iordSdh := fun t e => transaction_width _ _ _ _ t e
theorem TransactionWidth.iowrSdh (v : Byte) : TransactionWidth.Statement (.iowrSdh v) := fun t e => transaction_width _ _ _ _ t e
theorem TransactionWidth.iordStatus : TransactionWidth.Statement .iordStatus := fun t e => transaction_width _ _ _ _ t e
theorem TransactionWidth.iowrCommand (v : Byte) : TransactionWidth.Statement (.iowrCommand v) := fun t e => transaction_width _ _ _ _ t e
theorem TransactionWidth.bank0 : TransactionWidth.Statement .bank0 := fun _ e => nomatch e
theorem TransactionWidth.bank2 : TransactionWidth.Statement .bank2 := fun _ e => nomatch e
theorem TransactionWidth.bank3 : TransactionWidth.Statement .bank3 := fun _ e => nomatch e
theorem TransactionWidth.bank6 : TransactionWidth.Statement .bank6 := fun _ e => nomatch e
theorem TransactionWidth.bank7 : TransactionWidth.Statement .bank7 := fun _ e => nomatch e
theorem TransactionWidth.bankIllegal (c : Byte) : TransactionWidth.Statement (.bankIllegal c) := fun _ e => nomatch e
theorem TransactionWidth.restore (low : BitVec 4) : TransactionWidth.Statement (.restore low) := fun _ e => nomatch e
theorem TransactionWidth.read (low : BitVec 3) : TransactionWidth.Statement (.read low) := fun _ e => nomatch e
theorem TransactionWidth.readDma (low : BitVec 3) : TransactionWidth.Statement (.readDma low) := fun _ e => nomatch e
theorem TransactionWidth.write (low : BitVec 3) : TransactionWidth.Statement (.write low) := fun _ e => nomatch e
theorem TransactionWidth.writeDma (low : BitVec 3) : TransactionWidth.Statement (.writeDma low) := fun _ e => nomatch e
theorem TransactionWidth.verify (low : BitVec 4) : TransactionWidth.Statement (.verify low) := fun _ e => nomatch e
theorem TransactionWidth.format (low : BitVec 4) : TransactionWidth.Statement (.format low) := fun _ e => nomatch e
theorem TransactionWidth.init (low : BitVec 4) : TransactionWidth.Statement (.init low) := fun _ e => nomatch e
theorem TransactionWidth.seek (low : BitVec 4) : TransactionWidth.Statement (.seek low) := fun _ e => nomatch e
theorem TransactionWidth.unknown0 (low : BitVec 4) : TransactionWidth.Statement (.unknown0 low) := fun _ e => nomatch e
theorem TransactionWidth.unknown8F (low : BitVec 7) : TransactionWidth.Statement (.unknown8F low) := fun _ e => nomatch e
theorem TransactionWidth.wordrd (a : Addr) : TransactionWidth.Statement (.wordrd a) := fun _ e => nomatch e
theorem TransactionWidth.wordwr (a w : Addr) : TransactionWidth.Statement (.wordwr a w) := fun _ e => nomatch e
theorem TransactionWidth.block (dst src count : Addr) (dir : Direction) : TransactionWidth.Statement (.block dst src count dir) := fun _ e => nomatch e

end Sys2Proof.Laws
end

