-- ==== Sys2Proof/Laws/Ports.lean ====
section
/-! SUPPORT. What a port cycle can do, said once: the chains of tests of R231 and R232 as lists of outcomes, and each port
that has a row as an equation. -/

namespace Sys2Proof.Machine

/-- Everything a port read can do (R231, R250): the WP read, the data read, or an answer that changes nothing else. -/
theorem State.portRead_cases (s : State) (p : Byte) :
    (p = 0xC0#8 ∧ s.portRead p = s.readWp.2.answerByte s.readWp.1)
    ∨ (p = 0xC8#8 ∧ s.portRead p = s.readData)
    ∨ (p ≠ 0xC0#8 ∧ p ≠ 0xC8#8 ∧ ∃ x, s.portRead p = .next (s.reply x)) := by
  unfold State.portRead
  by_cases h1 : p = 0x43#8 ∧ s.model = .a
  · rw [if_pos h1]; obtain ⟨rfl, -⟩ := h1; exact .inr (.inr ⟨by decide, by decide, _, rfl⟩)
  by_cases h2 : p = 0x94#8 ∧ (s.model = .c ∨ s.model = .d)
  · rw [if_neg h1, if_pos h2]; obtain ⟨rfl, -⟩ := h2; exact .inr (.inr ⟨by decide, by decide, _, rfl⟩)
  rw [if_neg h1, if_neg h2]
  by_cases h3 : p = 0xC0#8
  · rw [if_pos h3]; exact .inl ⟨h3, rfl⟩
  by_cases h4 : p = 0xC8#8
  · subst h4; exact .inr (.inl ⟨rfl, rfl⟩)
  refine .inr (.inr ⟨h3, h4, ?_⟩)
  rw [if_neg h3]
  by_cases h5 : p = 0xC1#8
  · rw [if_pos h5]; exact ⟨_, rfl⟩
  rw [if_neg h5, if_neg h4]
  by_cases h6 : p = 0xC9#8
  · rw [if_pos h6]; exact ⟨_, rfl⟩
  by_cases h7 : p = 0xCA#8
  · rw [if_neg h6, if_pos h7]; exact ⟨_, rfl⟩
  by_cases h8 : p = 0xCB#8
  · rw [if_neg h6, if_neg h7, if_pos h8]; exact ⟨_, rfl⟩
  by_cases h9 : p = 0xCC#8
  · rw [if_neg h6, if_neg h7, if_neg h8, if_pos h9]; exact ⟨_, rfl⟩
  by_cases h10 : p = 0xCD#8
  · rw [if_neg h6, if_neg h7, if_neg h8, if_neg h9, if_pos h10]; exact ⟨_, rfl⟩
  by_cases h11 : p = 0xCE#8
  · rw [if_neg h6, if_neg h7, if_neg h8, if_neg h9, if_neg h10, if_pos h11]; exact ⟨_, rfl⟩
  by_cases h12 : p = 0xCF#8
  · rw [if_neg h6, if_neg h7, if_neg h8, if_neg h9, if_neg h10, if_neg h11, if_pos h12]; exact ⟨_, rfl⟩
  rw [if_neg h6, if_neg h7, if_neg h8, if_neg h9, if_neg h10, if_neg h11, if_neg h12]; exact ⟨_, rfl⟩

/-- Everything a port write can do (R232, R250, R146): the data write, the command, or an update of the banking state or
of the HDC's registers that always completes. -/
theorem State.portWrite_cases (s : State) (p v : Byte) :
    (p = 0xC8#8 ∧ s.portWrite p v = s.writeData v)
    ∨ (p = 0xCF#8 ∧ s.portWrite p v = s.runCommand v)
    ∨ (p ≠ 0xC8#8 ∧ p ≠ 0xCF#8 ∧ ∃ t, s.portWrite p v = .next (t.reply .nothing)
        ∧ (t = s ∨ t = s.selectorWrite v ∨ t = s.expansionWrite v ∨ t = s.bankregWrite v
            ∨ t = s.setRominOp (romctlRomin v) ∨ (p = 0xC1#8 ∧ t = s.writeControl v) ∨ t = s.writeSeccnt v
            ∨ t = s.writeSecnum v ∨ t = s.writeCyllo v ∨ t = s.writeCylhi v ∨ t = s.writeSdh v)) := by
  unfold State.portWrite
  by_cases h1 : p = 0x1F#8 ∧ s.hasSelector = true
  · rw [if_pos h1]; obtain ⟨rfl, -⟩ := h1; exact .inr (.inr ⟨by decide, by decide, _, rfl, by simp⟩)
  by_cases h2 : p = 0x43#8 ∧ s.model = .a
  · rw [if_neg h1, if_pos h2]; obtain ⟨rfl, -⟩ := h2; exact .inr (.inr ⟨by decide, by decide, _, rfl, by simp⟩)
  by_cases h3 : p = 0x84#8 ∧ (s.model = .c ∨ s.model = .d)
  · rw [if_neg h1, if_neg h2, if_pos h3]; obtain ⟨rfl, -⟩ := h3; exact .inr (.inr ⟨by decide, by decide, _, rfl, by simp⟩)
  by_cases h4 : p = 0x94#8 ∧ (s.model = .c ∨ s.model = .d)
  · rw [if_neg h1, if_neg h2, if_neg h3, if_pos h4]; obtain ⟨rfl, -⟩ := h4
    exact .inr (.inr ⟨by decide, by decide, _, rfl, by simp⟩)
  by_cases h5 : p = 0x9C#8 ∧ s.model = .d
  · rw [if_neg h1, if_neg h2, if_neg h3, if_neg h4, if_pos h5]; obtain ⟨rfl, -⟩ := h5
    exact .inr (.inr ⟨by decide, by decide, _, rfl, by simp⟩)
  rw [if_neg h1, if_neg h2, if_neg h3, if_neg h4, if_neg h5]
  by_cases h6 : p = 0xC1#8
  · rw [if_pos h6]; subst h6; exact .inr (.inr ⟨by decide, by decide, _, rfl, by simp⟩)
  by_cases h7 : p = 0xC8#8
  · subst h7; exact .inl ⟨rfl, rfl⟩
  by_cases h8 : p = 0xCF#8
  · subst h8; exact .inr (.inl ⟨rfl, rfl⟩)
  refine .inr (.inr ⟨h7, h8, ?_⟩)
  rw [if_neg h6, if_neg h7]
  by_cases h9 : p = 0xCA#8
  · rw [if_pos h9]; exact ⟨_, rfl, by simp⟩
  by_cases h10 : p = 0xCB#8
  · rw [if_neg h9, if_pos h10]; exact ⟨_, rfl, by simp⟩
  by_cases h11 : p = 0xCC#8
  · rw [if_neg h9, if_neg h10, if_pos h11]; exact ⟨_, rfl, by simp⟩
  by_cases h12 : p = 0xCD#8
  · rw [if_neg h9, if_neg h10, if_neg h11, if_pos h12]; exact ⟨_, rfl, by simp⟩
  by_cases h13 : p = 0xCE#8
  · rw [if_neg h9, if_neg h10, if_neg h11, if_neg h12, if_pos h13]; exact ⟨_, rfl, by simp⟩
  rw [if_neg h9, if_neg h10, if_neg h11, if_neg h12, if_neg h13, if_neg h8]; exact ⟨_, rfl, by simp⟩

/-- A command that uses the selected slot: the slot named, or the one fault of the model (log 12). -/
theorem State.onSelectedSlot_cases (s : State) (k : SlotId → State) :
    (∃ d, slotOfDrive s.hdc.drive = some d ∧ s.onSelectedSlot k = .next ((k d).reply .nothing))
    ∨ (slotOfDrive s.hdc.drive = none ∧ s.onSelectedSlot k = .fault (.noSuchSlot s.hdc.drive)) := by
  unfold State.onSelectedSlot
  rcases h : slotOfDrive s.hdc.drive with _ | d
  · exact .inr ⟨rfl, rfl⟩
  · exact .inl ⟨d, rfl, rfl⟩

end Sys2Proof.Machine
end

