-- ==== Sys2Proof/Tests/Slice0.lean ====
section
/-! SUPPORT. Tests: the well-formedness checks, one hand-written word per constructor, one step per operation with the
result the vectors of spec/95_test_vectors.md give, and a witness of the hypotheses of every statement. The vector or
rule a test comes from stands beside it. -/

namespace Sys2Proof.Tests
open Sys2Proof Sys2Proof.Machine Sys2Proof.Safety

/-! ### States to start from -/

/-- No expansion, 32 sectors per track. -/
def plain : Straps := { huffmanRam := false, supermem := false, selectorEnabled := false, sectorsPerTrack := 32 }

/-- Power-on of a variant with these straps and no medium. -/
def fresh (m : Model) (x : Straps) : State := .powerOn m x ⟨none, none, none, none⟩ []

/-- Variant B with 0x3000 bytes of ROM. -/
def vb : State := { fresh .b plain with rom := [(0, 0xF3#8)], romSize := 0x3000 }

/-- Variant C in map `n`. -/
def vc (n : BitVec 2) : State := { fresh .c plain with bank := { (fresh .c plain).bank with mapSel := n } }

/-- Variant C with the Huffman expansion. -/
def huffman : State := fresh .c { plain with huffmanRam := true }

/-- Variant D, its ROM 0x1000 bytes, in map `n`. -/
def vd (n : BitVec 2) : State :=
  { fresh .d plain with romSize := 0x1000, bank := { (fresh .d plain).bank with mapSel := n } }

/-- Variant A with Supermem. -/
def supermemA : State := { fresh .a { plain with supermem := true } with romSize := 0x3000 }

/-- Variant A with the selector card, its register and base as SEL_WR `v` leaves them. -/
def card (v : Byte) : State :=
  let s := { fresh .a { plain with selectorEnabled := true } with romSize := 0x3000 }
  { s with bank := { s.bank with selectorReg := v, bankBase := selectorBase v } }

/-- The image of P3: 40 cylinders, one head of 10 sectors. -/
def disk : Image :=
  { access := .rw, len := 102656
    bytes := [(0, 0x56#8), (1, 0xCB#8), (2, 0x10#8), (7, 0x00#8), (28, 40#8), (29, 10#8)] }

/-- The P3 image in slot 0, 10 sectors per track. -/
def withDisk (img : Image) : State :=
  .powerOn .a { plain with sectorsPerTrack := 10 } ⟨some img, none, none, none⟩ []

/-- The same with slot 0 open, a command under way. -/
def busy (command : Byte) (done : Nat) : State :=
  let s := withDisk disk
  { s with
    hdc := { s.hdc with command := command, status := 0x48#8, bytesdone := done }
    drv := { s.drv with d0 := ⟨true, false, 40, 1, 10, 256 + done⟩ } }

/-- The state after an operation. -/
def after (i : Instr) (s : State) : State :=
  match exec i s with
  | .next t => t
  | .fault _ => s
  | .refused _ => s

/-- Its answer. -/
def answerOf (i : Instr) (s : State) : Answer := (after i s).answer

/-! ### WellFormed refuses what it should -/

theorem test_wf_iord_row : (Instr.iord 0xCF#8).wellFormed = false := by decide
theorem test_wf_iowr_row : (Instr.iowr 0x84#8 0#8).wellFormed = false := by decide
theorem test_wf_reservedSb : (Instr.reservedSb 0x08#8 0#8 0#8).wellFormed = false := by decide
theorem test_wf_bankIllegal : (Instr.bankIllegal 3#8).wellFormed = false := by decide

/-! ### Words written out from the encodings of R91 to R115 -/

theorem test_decode_memory :
    decodeTableWord 32 0x0900000 = some (.memrd 0x9000#16) ∧ decodeTableWord 32 0x1900011 = some (.memwr 0x9000#16 0x11#8)
      ∧ decodeTableWord 32 0x53712AB = some (.romld 0x3712#16 0xAB#8) ∧ decodeTableWord 32 0x6380000 = some (.viewrd 0x3800#16)
      ∧ decodeTableWord 32 0x7380000 = some (.viewwr 0x3800#16) := by decide

theorem test_decode_sideband :
    decodeTableWord 32 0x4000000 = some .reset ∧ decodeTableWord 32 0x4010002 = some (.setModel 2#8)
      ∧ decodeTableWord 32 0x40200FF = some (.setRomin true) ∧ decodeTableWord 32 0x40300FE = some (.mapSel 2#2)
      ∧ decodeTableWord 32 0x4040003 = some (.bankCmd 3#8) ∧ decodeTableWord 32 0x4050001 = some (.videoPage true)
      ∧ decodeTableWord 32 0x406001F = some (.expWr 0x1F#8) ∧ decodeTableWord 32 0x4070000 = some .expRd
      ∧ decodeTableWord 32 0x4080018 = some (.selWr 0x18#8) := by decide

theorem test_decode_reserved :
    decodeTableWord 32 0x8000000 = some (.reservedKind 0#27) ∧ decodeTableWord 32 0xFFFFFFF = some (.reservedKind 0x7FFFFFF#27)
      ∧ decodeTableWord 32 0x4090000 = some (.reservedSb 9#8 0#8 0#8)
      ∧ decodeTableWord 32 0x4000100 = some (.reservedSb 0#8 1#8 0#8) := by decide

theorem test_decode_memdec_ports :
    decodeTableWord 32 0x3001F18 = some (.iowrSelector 0x18#8) ∧ decodeTableWord 32 0x3004303 = some (.iowrExpansionA 3#8)
      ∧ decodeTableWord 32 0x2004300 = some .iordExpansionA ∧ decodeTableWord 32 0x30084F3 = some (.iowrBankreg 0xF3#8)
      ∧ decodeTableWord 32 0x3009407 = some (.iowrExpansionCd 7#8) ∧ decodeTableWord 32 0x2009400 = some .iordExpansionCd
      ∧ decodeTableWord 32 0x3009CFE = some (.iowrRomctl 0xFE#8) ∧ decodeTableWord 32 0x2000000 = some (.iord 0#8)
      ∧ decodeTableWord 32 0x3000155 = some (.iowr 1#8 0x55#8) := by decide

theorem test_decode_hdc_reads :
    decodeTableWord 32 0x200C000 = some .iordWp ∧ decodeTableWord 32 0x200C100 = some .iordControl
      ∧ decodeTableWord 32 0x200C800 = some .iordData ∧ decodeTableWord 32 0x200C900 = some .iordError
      ∧ decodeTableWord 32 0x200CA00 = some .iordSeccnt ∧ decodeTableWord 32 0x200CB00 = some .iordSecnum
      ∧ decodeTableWord 32 0x200CC00 = some .iordCyllo ∧ decodeTableWord 32 0x200CD00 = some .iordCylhi
      ∧ decodeTableWord 32 0x200CE00 = some .iordSdh ∧ decodeTableWord 32 0x2C1CF00 = some .iordStatus := by decide

theorem test_decode_hdc_writes :
    decodeTableWord 32 0x300C0FF = some (.iowrWp 0xFF#8) ∧ decodeTableWord 32 0x300C118 = some (.iowrControl 0x18#8)
      ∧ decodeTableWord 32 0x300C8A0 = some (.iowrData 0xA0#8) ∧ decodeTableWord 32 0x300C955 = some (.iowrPrecomp 0x55#8)
      ∧ decodeTableWord 32 0x300CA20 = some (.iowrSeccnt 0x20#8) ∧ decodeTableWord 32 0x300CBFE = some (.iowrSecnum 0xFE#8)
      ∧ decodeTableWord 32 0x300CC34 = some (.iowrCyllo 0x34#8) ∧ decodeTableWord 32 0x300CD12 = some (.iowrCylhi 0x12#8)
      ∧ decodeTableWord 32 0x300CE0B = some (.iowrSdh 0x0B#8)
      ∧ decodeTableWord 32 0x300CF20 = some (.iowrCommand 0x20#8) := by decide

theorem test_decode_bank_bytes :
    decode (.bankByte 0x00#8) = .ok .bank0 ∧ decode (.bankByte 0x02#8) = .ok .bank2 ∧ decode (.bankByte 0x03#8) = .ok .bank3
      ∧ decode (.bankByte 0x06#8) = .ok .bank6 ∧ decode (.bankByte 0x07#8) = .ok .bank7
      ∧ decode (.bankByte 0xFF#8) = .ok (.bankIllegal 0xFF#8) := by decide

theorem test_decode_command_bytes :
    decode (.commandByte 0x1A#8) = .ok (.restore 10#4) ∧ decode (.commandByte 0x25#8) = .ok (.read 5#3)
      ∧ decode (.commandByte 0x28#8) = .ok (.readDma 0#3) ∧ decode (.commandByte 0x31#8) = .ok (.write 1#3)
      ∧ decode (.commandByte 0x3F#8) = .ok (.writeDma 7#3) ∧ decode (.commandByte 0x4F#8) = .ok (.verify 15#4)
      ∧ decode (.commandByte 0x57#8) = .ok (.format 7#4) ∧ decode (.commandByte 0x60#8) = .ok (.init 0#4)
      ∧ decode (.commandByte 0x78#8) = .ok (.seek 8#4) ∧ decode (.commandByte 0x05#8) = .ok (.unknown0 5#4)
      ∧ decode (.commandByte 0x90#8) = .ok (.unknown8F 0x10#7) := by decide

theorem test_decode_composites :
    decode (.wordrd 0x3FFF#16) = .ok (.wordrd 0x3FFF#16) ∧ decode (.wordwr 1#16 2#16) = .ok (.wordwr 1#16 2#16)
      ∧ decode (.block 1#16 0#16 0#16 .down) = .ok (.block 1#16 0#16 0#16 .down) := by decide

theorem test_decode_refuses :
    decodeTableWord 32 0x10000000 = none ∧ decodeTableWord 16 0 = none
      ∧ decode (.word 0x10000000#32) = .error .aboveWord := by decide

/-- The first operation after reset (log 1): V43-1's word on the reset state, then an unmapped read answers 0xFF. -/
theorem test_step_first : (match step (State.reset.withFetchWord 32 0x0123400) with
    | .next t => decide (t.answer = .byte 0xFF#8 ∧ t.pending = [])
    | _ => false) = true := by decide

/-! ### One step of each operation -/

/-- V43-2: a ROM read. -/
theorem test_memrd_rom : answerOf (.memrd 0#16) vb = .byte 0xF3#8 := by decide
/-- V43-1: unmapped. -/
theorem test_memrd_none : answerOf (.memrd 0x1234#16) (card 0x07#8) = .byte 0xFF#8 := by decide
/-- P1 line 3: the offset of command 2. -/
theorem test_memwr_banked :
    (after (.memwr 0x9000#16 0x22#8) { vc 0#2 with bank := { (vc 0#2).bank with bankOffset1 := 0x8000#21 } }).ram
      = [(0x11000, 0x22#8)] := by decide
/-- V43-4: the printer. -/
theorem test_memwr_printer : (after (.memwr 0x37E8#16 0x41#8) vb).events = [.periphWrite .printer 0 0x41#8] := by decide
/-- V43-5: a word across the wrap. -/
theorem test_wordwr : (after (.wordwr 0xFFFF#16 0xABCD#16) (vc 3#2)).ram = [(0, 0xAB#8), (0xFFFF, 0xCD#8)] := by decide
/-- V43-5: and back. -/
theorem test_wordrd :
    answerOf (.wordrd 0xFFFF#16) { vc 3#2 with ram := [(0, 0xAB#8), (0xFFFF, 0xCD#8)] } = .word 0xABCD#16 := by decide
/-- V43-7: the ROM view ends at the ROM's end. -/
theorem test_viewrd : answerOf (.viewrd 0x2FF0#16) vb = .view .rom 0x2FF0 0x10 := by decide
/-- V43-13: the keyboard hole. -/
theorem test_viewwr :
    answerOf (.viewwr 0x3AFF#16) (card 0#8) = .view .ram 0x3AFF 1 ∧ answerOf (.viewwr 0x3B00#16) (card 0#8) = .unmapped := by
  decide
/-- V43-10: a backward block. -/
theorem test_block_down :
    (after (.block 0x2002#16 0x1002#16 3#16 .down)
        { vc 3#2 with ram := [(0x1000, 1#8), (0x1001, 2#8), (0x1002, 3#8)] }).ram
      = [(0x1000, 1#8), (0x1001, 2#8), (0x1002, 3#8), (0x2000, 1#8), (0x2001, 2#8), (0x2002, 3#8)] := by decide
/-- V43-11: a block out of unmapped addresses. -/
theorem test_block_none : answerOf (.block 0x4000#16 0#16 2#16 .up) (fresh .b plain) = .byte 0xFF#8 := by decide
/-- V43-15. -/
theorem test_iord_not_mine : answerOf (.iord 0xC2#8) vb = .notMine := by decide
/-- R232: a write to an unclaimed port changes nothing. -/
theorem test_iowr_ignored : after (.iowr 0x00#8 0x5A#8) vb = vb := by decide

/-- V70-3. -/
theorem test_reset : (after .reset (card 0x07#8)).bank = (fresh .a plain).bank := by decide
/-- V40-22. -/
theorem test_setModel : (after (.setModel 4#8) (vc 3#2)).bank = (fresh .c plain).bank := by decide
/-- V40-21. -/
theorem test_setModel_illegal : (after (.setModel 2#8) vb).events = [.diag .cfgModel] := by decide
/-- V40-17 and V70-2's premise. -/
theorem test_setRomin :
    after (.setRomin true) (vc 0#2) = vc 0#2 ∧ (after (.setRomin false) (vd 0#2)).mode.code = 0x50#7 := by decide
/-- V40-19, V40-20. -/
theorem test_mapSel : after (.mapSel 2#2) vb = vb ∧ (after (.mapSel 2#2) (vd 0#2)).mode.code = 0x56#7 := by decide
/-- V40-1. -/
theorem test_bankCmd :
    (after (.bankCmd 3#8) (vc 0#2)).bank.bankOffset1 = 0x18000#21 ∧ (after (.bankCmd 3#8) (vc 0#2)).bank.bankOffset0 = 0#21 := by
  decide
/-- V40-3. -/
theorem test_bankCmd_illegal : (after (.bankCmd 0xFF#8) (vc 0#2)).events = [.diag .cfgBankCmd] := by decide
/-- V40-23: set, not flip. -/
theorem test_videoPage : (after (.videoPage true) (after (.videoPage true) vb)).videoOffset = 0x400 := by decide
/-- V40-7, V40-8. -/
theorem test_expWr :
    (after (.expWr 0xE5#8) huffman).bank.bankBase = 0x50000#21 ∧ (after (.expWr 0xF3#8) supermemA).bank.bankBase = 0x18000#21 := by
  decide
/-- V40-10, V40-9. -/
theorem test_expRd : answerOf .expRd huffman = .byte 0x01#8 ∧ answerOf .expRd (vc 0#2) = .byte 0xFF#8 := by decide
/-- V40-13. -/
theorem test_selWr :
    (after (.selWr 0x38#8) (card 0#8)).bank.bankBase = 0x20000#21 ∧ (after (.selWr 0x39#8) (card 0#8)).mode.code = 0x11#7 := by
  decide
/-- V40-24, V40-25. -/
theorem test_romld :
    (after (.romld 0x37FF#16 0#8) vb).romSize.val = 0x3800 ∧ (after (.romld 0x3800#16 0#8) vb).events = [.diag .cfgRomRange] := by
  decide
/-- R116. -/
theorem test_reservedKind : exec (.reservedKind 0#27) vb = .refused .reservedKind := rfl
theorem test_reservedSb : exec (.reservedSb 9#8 0#8 0#8) vb = .refused .reservedSideBand := rfl

/-- P4 line 2; V40-16. -/
theorem test_iowrSelector :
    (after (.iowrSelector 0x18#8) (card 0#8)).bank.bankBase = 0x10000#21 ∧ after (.iowrSelector 0x0F#8) (vc 0#2) = vc 0#2 := by
  decide
/-- V41-24. -/
theorem test_iowrExpansionA : (after (.iowrExpansionA 3#8) supermemA).bank.bankBase = 0x18000#21 := by decide
/-- R139 on variant A; R231 elsewhere. -/
theorem test_iordExpansionA : answerOf .iordExpansionA supermemA = .byte 0#8 ∧ answerOf .iordExpansionA vb = .notMine := by decide
/-- V40-5. -/
theorem test_iowrBankreg :
    (after (.iowrBankreg 0xF3#8) (vc 0#2)).bank
      = ⟨3#2, false, 0#8, 0x18000#21, 0#21, 0x10000#21, .c7, .page1⟩ := by decide
/-- V43-16. -/
theorem test_iowrBankreg_b : after (.iowrBankreg 0x20#8) vb = vb := by decide
/-- V40-6. -/
theorem test_iowrExpansionCd : (after (.iowrExpansionCd 0x1F#8) huffman).bank.bankBase = 0x1F0000#21 := by decide
/-- V40-9. -/
theorem test_iordExpansionCd : answerOf .iordExpansionCd (vc 0#2) = .byte 0xFF#8 := by decide
/-- V40-18. -/
theorem test_iowrRomctl : (after (.iowrRomctl 0xFE#8) (vd 0#2)).mode.code = 0x50#7 := by decide
/-- W5. -/
theorem test_bank_bytes :
    (after .bank0 (vc 0#2)).bank.bankOffset1 = 0#21 ∧ (after .bank2 (vc 0#2)).bank.bankOffset1 = 0x8000#21
      ∧ (after .bank3 (vc 0#2)).bank.bankOffset1 = 0x18000#21 ∧ (after .bank6 (vc 0#2)).bank.bankOffset0 = 0x10000#21
      ∧ (after .bank7 (vc 0#2)).bank.bankOffset0 = 0x18000#21 ∧ (after (.bankIllegal 5#8) (vc 0#2)).bank = (vc 0#2).bank := by
  decide

/-- V44-11. -/
theorem test_iordWp_absent :
    answerOf .iordWp (fresh .b plain) = .byte 0#8 ∧ (after .iordWp (fresh .b plain)).hdc.error = 0x10#8 := by decide
/-- V44-12's second slot, here in slot 0: header byte 7 bit 7. -/
theorem test_iordWp_flag :
    answerOf .iordWp
        { busy 0#8 0 with drv := { (busy 0#8 0).drv with d0 := ⟨true, true, 40, 1, 10, 256⟩ } } = .byte 0x80#8 := by decide
/-- V44-7, V44-8. -/
theorem test_ignored_ports : after (.iowrWp 0xFF#8) vb = vb ∧ after (.iowrPrecomp 0x55#8) vb = vb := by decide
/-- V44-9. -/
theorem test_iowrControl : (after (.iowrControl 0x0F#8) (busy 0x20#8 5)).hdc.control = 0x0F#8
    ∧ (after (.iowrControl 0x0F#8) (busy 0x20#8 5)).hdc.status = 0x48#8 := by decide
/-- V44-10. -/
theorem test_iowrControl_reset : (after (.iowrControl 0x18#8) (busy 0x20#8 5)).hdc
      = ⟨0x18#8, 0#8, 0#8, 0#8, 0#8, 0#8, 0#8, 0#16, 0#3, 0#4, 0⟩
    ∧ (after (.iowrControl 0x18#8) (busy 0x20#8 5)).drv.d0 = .closed := by decide
/-- V44-2, V44-4, V44-6 and R253, R256, R262: the plain reads. -/
theorem test_register_reads :
    let s := { vb with hdc := ⟨1#8, 2#8, 3#8, 4#8, 5#8, 6#8, 7#8, 0x1234#16, 3#3, 7#4, 0⟩ }
    answerOf .iordControl s = .byte 1#8 ∧ answerOf .iordError s = .byte 3#8 ∧ answerOf .iordSeccnt s = .byte 4#8
      ∧ answerOf .iordSecnum s = .byte 5#8 ∧ answerOf .iordStatus s = .byte 6#8 ∧ answerOf .iordCyllo s = .byte 0x34#8
      ∧ answerOf .iordCylhi s = .byte 0x12#8 ∧ answerOf .iordSdh s = .byte 0x1F#8 ∧ answerOf .iordData s = .byte 2#8 := by
  decide
/-- V44-2, V44-6: the plain writes. -/
theorem test_register_writes :
    (after (.iowrSeccnt 0x20#8) vb).hdc.seccnt = 0x20#8 ∧ (after (.iowrSecnum 0xFE#8) vb).hdc.secnum = 0xFE#8
      ∧ (after (.iowrCyllo 0x34#8) vb).hdc.cyl = 0x0034#16 ∧ (after (.iowrCylhi 0x12#8) vb).hdc.cyl = 0x1200#16 := by decide
/-- V44-3, V44-5. -/
theorem test_iowrSdh : (after (.iowrSdh 0x0B#8) vb).hdc.drive = 1#3 ∧ (after (.iowrSdh 0x0B#8) vb).hdc.head = 3#4
    ∧ (after (.iowrSdh 0x80#8) vb).events = [] := by decide
/-- V44-4. -/
theorem test_iowrSdh_size : (after (.iowrSdh 0xFF#8) vb).events = [.diag .cfgSizeBits]
    ∧ (after (.iowrSdh 0xFF#8) vb).hdc.drive = 3#3 := by decide
/-- V45-14: an unknown opcode through the port. -/
theorem test_iowrCommand : (after (.iowrCommand 0x00#8) (busy 0x20#8 7)).hdc.status = 0x48#8
    ∧ (after (.iowrCommand 0x00#8) (busy 0x20#8 7)).events = [.diag .protoUnknownCmd] := by decide
/-- V45-1. -/
theorem test_restore : (after (.restore 0#4) { vb with hdc := { vb.hdc with cyl := 0x0123#16 } }).hdc
      = ⟨0#8, 0#8, 0#8, 0#8, 0#8, 0x40#8, 0x10#8, 0#16, 0#3, 0#4, 0⟩ := by decide
/-- V45-2's position formula with this geometry: cylinder 1, sector 3 is 256 + 256 * (1 * 10 + 3). -/
theorem test_read : (after (.read 0#3)
      { busy 0#8 0 with hdc := { (busy 0#8 0).hdc with cyl := 1#16, secnum := 3#8 } }).drv.d0.fpos = 3584 := by decide
/-- V45-22: no medium. -/
theorem test_read_absent : (after (.read 0#3) vb).hdc.status = 0x01#8 ∧ (after (.read 0#3) vb).hdc.error = 0x10#8 := by decide
/-- V45-5. -/
theorem test_dma : (after (.readDma 0#3) (busy 0#8 0)).hdc.error = 0x04#8
    ∧ (after (.writeDma 7#3) (busy 0#8 0)).events = [.diag .protoDma]
    ∧ (after (.writeDma 7#3) (busy 0#8 0)).hdc.command = 0x3F#8 := by decide
/-- P3 line 4. -/
theorem test_write : (after (.write 0#3) (busy 0#8 9)).hdc.status = 0x48#8
    ∧ (after (.write 0#3) (busy 0#8 9)).drv.d0.fpos = 256 ∧ (after (.write 0#3) (busy 0#8 9)).hdc.bytesdone = 0 := by decide
/-- V45-6: the head out of range. -/
theorem test_verify : (after (.verify 0#4) { busy 0#8 0 with hdc := { (busy 0#8 0).hdc with head := 1#4 } }).hdc.error = 0x10#8 := by
  decide
/-- V45-11. -/
theorem test_format : (after (.format 7#4) vb).events = [.diag .cfgFormatParams] ∧ (after (.format 7#4) vb).hdc.status = 0x40#8 := by
  decide
/-- V45-10. -/
theorem test_format_ok :
    (after (.format 0#4) { vb with hdc := { vb.hdc with seccnt := 32#8, secnum := 0x0F#8 } }).events = [] := by decide
/-- V45-12. -/
theorem test_init : (after (.init 0#4) vb).events = [.diag .protoInit] ∧ (after (.init 0#4) vb).hdc.status = 0x40#8 := by decide
/-- V45-7: the sector out of range. -/
theorem test_seek : (after (.seek 0#4) { busy 0#8 0 with hdc := { (busy 0#8 0).hdc with secnum := 10#8 } }).hdc.error = 0x10#8 := by
  decide
/-- V45-13. -/
theorem test_unknown : (after (.unknown8F 0x10#7) (busy 0x20#8 7)).hdc.command = 0x90#8
    ∧ (after (.unknown0 0#4) (busy 0x20#8 7)).hdc.bytesdone = 0 := by decide
/-- V45-3's shape: one byte of a READ. -/
theorem test_iordData :
    let s := { busy 0x20#8 0 with media := ⟨some { disk with bytes := disk.bytes ++ [(256, 0xA5#8)] }, none, none, none⟩ }
    answerOf .iordData s = .byte 0xA5#8 ∧ (after .iordData s).drv.d0.fpos = 257 ∧ (after .iordData s).hdc.bytesdone = 1 := by
  decide
/-- V45-4: the transfer is over, the register is returned. -/
theorem test_iordData_done : answerOf .iordData (busy 0x20#8 256) = .byte 0#8 ∧ (after .iordData (busy 0x20#8 256)).drv.d0.fpos = 512 := by
  decide
/-- V45-17: the third byte of sector (0, 0, 0) goes to header byte 31 too. -/
theorem test_iowrData_quirk :
    (after (.iowrData 0xCC#8) (busy 0x30#8 2)).media.d0.map Image.bytes
      = some [(0, 0x56#8), (1, 0xCB#8), (2, 0x10#8), (7, 0x00#8), (28, 40#8), (29, 10#8), (31, 0xCC#8), (258, 0xCC#8)] := by
  decide
/-- V45-18: a read-only medium. -/
theorem test_iowrData_ro :
    let s := { busy 0x30#8 0 with media := ⟨some { disk with access := .ro }, none, none, none⟩ }
    (after (.iowrData 0x11#8) s).hdc.error = 0x40#8 ∧ (after (.iowrData 0x11#8) s).media = s.media
      ∧ (after (.iowrData 0x11#8) s).drv.d0.fpos = 257 := by decide

/-! ### The open step (W4, W7, family 46) -/

/-- W7: the open succeeds with one head. -/
theorem test_open : ((withDisk disk).openSlot .s0).2.drv.d0 = ⟨true, false, 40, 1, 10, 256⟩ := by decide +kernel
/-- W4 and V46-9: 255 sectors do not divide by 10. -/
theorem test_open_geometry :
    let img := { disk with bytes := disk.bytes.take 5 ++ [(29, 255#8)] }
    ((withDisk img).openSlot .s0).1 = false ∧ ((withDisk img).openSlot .s0).2.events = [.diag .cfgBadGeometry] := by
  decide +kernel
/-- V46-2: 100 bytes are no header. -/
theorem test_open_short : ((withDisk { disk with len := 100 }).openSlot .s0).2.events = [.diag .cfgBadHeader] := by
  decide +kernel

/-! ### Witnesses of the hypotheses of the statements, at the boundaries of their clauses -/

theorem witness_DecodeReadsBackEncode :
    (Instr.iord 0x42#8).wellFormed = true ∧ (Instr.reservedSb 9#8 0#8 0#8).wellFormed = true
      ∧ (Instr.reservedSb 8#8 1#8 0#8).wellFormed = true ∧ (Instr.bankIllegal 1#8).wellFormed = true
      ∧ (Instr.iowr 0x44#8 0#8).wellFormed = true ∧ (Instr.block 0#16 0#16 0#16 .down).wellFormed = true := by decide

theorem witness_PortUpperAddressByteIgnored : (2#4 = 2#4 ∨ 2#4 = 3#4) ∧ ((3#4 : BitVec 4) = 2#4 ∨ 3#4 = 3#4) := by decide

theorem witness_ReservedWordsAreRefused :
    8 ≤ (8#4).toNat ∧ 8 ≤ (15#4).toNat ∧ (9 ≤ (9#8).toNat ∨ 0#8 ≠ 0#8) ∧ (9 ≤ (0#8).toNat ∨ 1#8 ≠ 0#8) := by decide

theorem witness_OnlyReservedWordsAndSetModelRefuse :
    exec (.reservedKind 0#27) vb = .refused .reservedKind ∧ exec (.reservedSb 9#8 0#8 0#8) vb = .refused .reservedSideBand
      ∧ exec (.setModel 4#8) supermemA = .refused .illegalConfiguration := ⟨rfl, rfl, rfl⟩

theorem witness_StepRunsDecodedInstruction :
    let s := vb.withFetchWord 32 0x0900000
    legalConfiguration s.model s.straps = true ∧ s.pending = [.word 0x0900000#32]
      ∧ decode (.word 0x0900000#32) = .ok (.memrd 0x9000#16) ∧ (Instr.memrd 0x9000#16).wellFormed = true := by decide

theorem witness_StepWithoutOperation :
    legalConfiguration vb.model vb.straps = true ∧ vb.pending = []
      ∧ legalConfiguration (fresh .b { plain with sectorsPerTrack := 256 }).model
          (fresh .b { plain with sectorsPerTrack := 256 }).straps = false := by decide

theorem witness_ModeCodeFormula :
    (card 7#8).model = .a ∧ (card 7#8).straps.selectorEnabled = true ∧ (card 7#8).mode.code = 0x17#7
      ∧ supermemA.straps.selectorEnabled = false ∧ supermemA.mode.code = 0x10#7 ∧ vb.mode.code = 0x30#7
      ∧ (vc 3#2).mode.code = 0x43#7 ∧ (vd 3#2).mode.code = 0x57#7 := by decide

/-- V41-3, V41-4: the peripherals of variant A. -/
theorem witness_DecodeSelectsInsideRegions :
    (supermemA.route 0x37E0 .rd).region = .intlatch ∧ (supermemA.route 0x37E4 .wr).region = .cass
      ∧ (supermemA.route 0x37E3 .wr).region = .fdsel ∧ (supermemA.route 0x37EF .rd).region = .fdc := by decide

/-- V42-1, V42-2 at the ends of each range. -/
theorem witness_VariantBDecode :
    vb.model = .b ∧ vb.route 0x4000 .wr = ⟨.ram, 0x4000⟩ ∧ vb.route 0xFFFF .rd = ⟨.ram, 0xFFFF⟩
      ∧ vb.route 0x37E8 .wr = ⟨.printer, 0⟩ ∧ vb.route 0x2FFF .rd = ⟨.rom, 0x2FFF⟩ ∧ vb.route 0x3000 .rd = ⟨.none, 0⟩
      ∧ vb.route 0x37FF .rd = ⟨.none, 0⟩ ∧ vb.route 0x3BFF .wr = ⟨.none, 0⟩ ∧ vb.route 0x3800 .rd = ⟨.kbd, 0⟩
      ∧ vb.route 0x3BFF .rd = ⟨.kbd, 0x3FF⟩ ∧ vb.route 0x3C00 .wr = ⟨.video, 0⟩ ∧ vb.route 0x3FFF .rd = ⟨.video, 0x3FF⟩ := by
  decide

/-- V42-7, and V42-9 with the ROM off; variant C without a ROM. -/
theorem witness_MapZeroDecode :
    (vd 0#2).model = .d ∧ (vd 0#2).bank.mapSel = 0#2 ∧ (vd 0#2).bank.romin = true
      ∧ (vd 0#2).route 0x0FFF .rd = ⟨.rom, 0x0FFF⟩ ∧ (vd 0#2).route 0x1000 .rd = ⟨.ram, 0x1000⟩
      ∧ (vd 0#2).route 0x37E8 .rd = ⟨.printer, 0⟩ ∧ (vd 0#2).route 0x37FF .rd = ⟨.ram, 0x37FF⟩
      ∧ (vd 0#2).route 0x37FF .wr = ⟨.none, 0⟩ ∧ (vd 0#2).route 0x3800 .rd = ⟨.kbd, 0⟩
      ∧ (vd 0#2).route 0x3C00 .wr = ⟨.video, 0⟩ ∧ (vd 0#2).route 0x4000 .wr = ⟨.ram, 0x4000⟩
      ∧ (vc 0#2).model = .c ∧ (vc 0#2).route 0 .rd = ⟨.none, 0⟩ ∧ (vc 0#2).route 0x8000 .rd = ⟨.ram, 0x8000⟩ := by decide

/-- V42-10 to V42-14 at the ends of each range. -/
theorem witness_MapsOneToThreeDecode :
    (vd 1#2).bank.mapSel = 1#2 ∧ (vd 1#2).route 0x0800 .rd = ⟨.rom, 0x0800⟩ ∧ (vd 1#2).route 0x0800 .wr = ⟨.ram, 0x0800⟩
      ∧ (vd 1#2).route 0x1000 .rd = ⟨.ram, 0x1000⟩ ∧ (vc 1#2).route 0x37E8 .wr = ⟨.ram, 0x37E8⟩
      ∧ (vc 1#2).route 0x3800 .rd = ⟨.kbd, 0⟩ ∧ (vc 1#2).route 0x3FFF .wr = ⟨.video, 0x3FF⟩
      ∧ (vc 2#2).route 0xF3FF .rd = ⟨.ram, 0xF3FF⟩ ∧ (vc 2#2).route 0xF400 .rd = ⟨.kbd, 0⟩
      ∧ (vc 2#2).route 0xF7FF .wr = ⟨.none, 0⟩ ∧ (vc 2#2).route 0xF800 .rd = ⟨.none, 0⟩
      ∧ (vc 2#2).route 0xFC00 .rd = ⟨.video, 0⟩ ∧ (vc 3#2).route 0x37E8 .rd = ⟨.ram, 0x37E8⟩ := by decide

/-- V41-1 to V41-8, V41-13, V41-15, V41-17. -/
theorem witness_VariantABlockDecode :
    (card 0#8).mode = .a 0#3 ∧ (card 1#8).mode = .a 1#3 ∧ (card 2#8).mode = .a 2#3 ∧ (card 3#8).mode = .a 3#3
      ∧ (card 6#8).mode = .a 6#3 ∧ 0xFFFF % 0x4000 = 0x3FFF ∧ (card 0#8).route 0x2FFF .rd = ⟨.rom, 0x2FFF⟩
      ∧ (card 0#8).route 0x37E5 .wr = ⟨.none, 0⟩ ∧ (card 1#8).route 0xF7E0 .rd = ⟨.intlatch, 0⟩
      ∧ (card 1#8).route 0xF7FF .wr = ⟨.none, 0⟩ ∧ (card 2#8).route 0x37E0 .wr = ⟨.fdsel, 0⟩
      ∧ (card 2#8).route 0x37F0 .rd = ⟨.none, 0⟩ ∧ (card 3#8).route 0xF7E8 .rd = ⟨.printer, 0⟩
      ∧ (card 3#8).route 0xFBFF .rd = ⟨.kbd, 0x3FF⟩ ∧ (card 3#8).route 0xFFFF .rd = ⟨.video, 0x3FF⟩ := by decide

/-- V41-9, V41-12 to V41-23. -/
theorem witness_VariantARamDecode :
    (card 0x07#8).mode = .a 7#3 ∧ (card 0x07#8).route 0x37E8 .rd = ⟨.none, 0⟩ ∧ (card 0x0E#8).mode = .a 6#3
      ∧ (card 0x0E#8).route 0xC000 .rd = ⟨.ram, 0x8000⟩ ∧ (card 0x06#8).route 0xFFFF .wr = ⟨.none, 0⟩
      ∧ (card 0x09#8).route 0x7FFF .rd = ⟨.ram, 0x17FFF⟩ ∧ (card 0x09#8).route 0x8000 .rd = ⟨.ram, 0x8000⟩
      ∧ (card 0x3C#8).route 0x8000 .wr = ⟨.ram, 0x28000⟩ ∧ (card 0x3D#8).route 0 .rd = ⟨.ram, 0x28000⟩
      ∧ (card 0x02#8).route 0x37DF .rd = ⟨.ram, 0x37DF⟩ ∧ (card 0x03#8).route 0xF7DF .rd = ⟨.ram, 0xF7DF⟩
      ∧ (card 0x01#8).route 0xF800 .wr = ⟨.ram, 0xF800⟩ ∧ (card 0x00#8).route 0x4000 .wr = ⟨.ram, 0x4000⟩ := by decide

theorem witness_BankCommandWindows :
    (vc 3#2).model = .c ∧ (vc 3#2).bank.mapSel = 3#2 ∧ (vc 3#2).bank.bankBase.toNat ≤ 0x1F0000
      ∧ (after (.bankCmd 7#8) (vc 3#2)).route 0x7FFF .rd = ⟨.ram, 0x1FFFF⟩
      ∧ (after (.bankCmd 3#8) (vc 3#2)).route 0x8000 .rd = ⟨.ram, 0x20000⟩ := by decide

/-- P4 lines 3 and 7. -/
theorem witness_SelectorBankWindows :
    (card 0#8).model = .a ∧ (card 0#8).straps.selectorEnabled = true ∧ (0x1D#8).extractLsb' 0 3 = 5#3
      ∧ (0x1C#8).extractLsb' 0 3 = 4#3 ∧ (after (.selWr 0x1D#8) (card 0#8)).route 0x1000 .rd = ⟨.ram, 0x19000⟩
      ∧ (after (.selWr 0x1C#8) (card 0#8)).route 0x9000 .rd = ⟨.ram, 0x19000⟩ := by decide

/-- V41-24. -/
theorem witness_SupermemWindow :
    supermemA.straps.supermem = true ∧ legalConfiguration supermemA.model supermemA.straps = true
      ∧ supermemA.bank.selectorReg = 0#8 ∧ (after (.expWr 3#8) supermemA).route 0x8000 .rd = ⟨.ram, 0x20000⟩
      ∧ (after (.expWr 3#8) supermemA).route 0x7FFF .rd = ⟨.ram, 0x7FFF⟩ := by decide

theorem witness_RominChangesOnlyRomReads :
    (vd 0#2).model = .d ∧ (vd 0#2).romSize.val ≤ 0x1000 ∧ (vd 2#2).bank.mapSel = 2#2 ∧ (vd 0#2).bank.mapSel = 0#2 := by decide

/-- One address for each region a read, or a write, can select. -/
theorem witness_MemrdByRegion :
    (vb.route 0x4000 .rd).region = .ram ∧ (vb.route 0 .rd).region = .rom ∧ (vb.route 0x3C00 .rd).region = .video
      ∧ (vb.route 0x3000 .rd).region = .none ∧ (vb.route 0x3801 .rd).region = .kbd := by decide

theorem witness_MemwrByRegion :
    (vb.route 0x4000 .wr).region = .ram ∧ (vb.route 0x3C00 .wr).region = .video ∧ (vb.route 0 .wr).region = .none
      ∧ (vb.route 0x37E8 .wr).region = .printer := by decide

/-- W3. -/
theorem witness_VideoWriteNotifiesOnChange :
    let s := { vb with video := [(5, 0x20#8)] }
    (s.route (0x3C05#16).toNat .wr).region = .video ∧ s.videoByte 5 = 0x20#8 ∧ s.videoByte 5 ≠ 0x41#8 := by decide

/-- The same cell through one address, and through two (P4 lines 3 and 7 show two in time). -/
theorem witness_ReadReturnsLastWrite :
    vb.route (0x4000#16).toNat .rd = vb.route (0x4000#16).toNat .wr ∧ (vb.route (0x4000#16).toNat .wr).region = .ram
      ∧ vb.route (0x3C00#16).toNat .rd = vb.route (0x3C00#16).toNat .wr
      ∧ (vb.route (0x3C00#16).toNat .wr).region = .video
      ∧ (card 0x0E#8).route (0xC000#16).toNat .rd = ⟨.ram, 0x8000⟩ := by decide

/-- V43-5. -/
theorem witness_WordWrittenReadsBack :
    (∀ rw, (vc 3#2).route (0xFFFF#16).toNat rw = ⟨.ram, 0xFFFF⟩)
      ∧ (∀ rw, (vc 3#2).route (0xFFFF#16 + 1#16).toNat rw = ⟨.ram, 0⟩) ∧ 0xFFFF ≠ 0 :=
  ⟨fun rw => by cases rw <;> decide, fun rw => by cases rw <;> decide, by decide⟩

theorem witness_BlockForwardOverlapReplicates :
    (vc 3#2).model = .c ∧ (vc 3#2).bank.mapSel = 3#2 ∧ (vc 3#2).bank.bankOffset0 = 0#21 ∧ (vc 3#2).bank.bankOffset1 = 0#21
      ∧ (0#16).toNat + 1 ≤ 0xFFFF ∧ (0#16).toNat + 0xFFFF ≤ 0xFFFF := by decide

/-- A readable and an unreadable address, a writable and an unwritable one, and the hole. -/
theorem witness_ViewsByRegion :
    (vb.route 0 .rd).region ∈ [Region.ram, .rom, .video] ∧ (vb.route 0x3800 .rd).region ∉ [Region.ram, .rom, .video]
      ∧ vb.mode ≠ .a 0#3 ∧ (vb.route 0x8000 .wr).region = .ram ∧ (vb.route 0x3C00 .wr).region ≠ .ram
      ∧ (card 0#8).mode = .a 0#3 ∧ (card 0#8).straps.selectorEnabled = true := by decide

theorem witness_ViewLengthIsMaximal :
    exec (.viewrd 0x2FF0#16) vb = .next (after (.viewrd 0x2FF0#16) vb)
      ∧ (after (.viewrd 0x2FF0#16) vb).answer = .view .rom 0x2FF0 0x10 := by
  exact ⟨rfl, by decide⟩

theorem witness_KeyboardHoleIsAViewOnly :
    (card 0#8).mode = .a 0#3 ∧ (card 0#8).bank.selectorReg.getLsbD 0 = false ∧ 0x3800 ≤ (0x3AFF#16).toNat
      ∧ (0x3AFF#16).toNat ≤ 0x3BFF ∧ 0x3800 ≤ (0x3B00#16).toNat ∧ (supermemA.mode = .a 0#3)
      ∧ supermemA.straps.selectorEnabled = false := by decide

theorem witness_SetModelResult :
    0#8 ∉ [1#8, 3#8, 4#8, 5#8] ∧ 2#8 ∉ [1#8, 3#8, 4#8, 5#8]
      ∧ (4#8, Model.c) ∈ [(1#8, Model.a), (3#8, .b), (4#8, .c), (5#8, .d)] ∧ supermemA.straps.supermem = true
      ∧ vb.straps.huffmanRam = false ∧ vb.straps.supermem = false ∧ vb.straps.selectorEnabled = false
      ∧ 1 ≤ vb.straps.sectorsPerTrack ∧ vb.straps.sectorsPerTrack ≤ 255 := by decide

theorem witness_ModeSelectionResults :
    (vd 0#2).model = .d ∧ (vc 0#2).model ≠ .d ∧ (vc 0#2).model = .c ∧ supermemA.model = .a ∧ vb.model = .b := by decide

theorem witness_BankCommandTable : 1#8 ∉ [0#8, 2#8, 3#8, 6#8, 7#8] ∧ 8#8 ∉ [0#8, 2#8, 3#8, 6#8, 7#8] := by decide

theorem witness_ExpansionWriteResult :
    huffman.straps.huffmanRam = true ∧ supermemA.straps.huffmanRam = false ∧ supermemA.straps.supermem = true
      ∧ vb.straps.huffmanRam = false ∧ vb.straps.supermem = false := by decide

theorem witness_ExpansionReadsBack :
    huffman.straps.huffmanRam = true ∧ supermemA.straps.huffmanRam = false ∧ supermemA.straps.supermem = true
      ∧ answerOf .expRd (after (.expWr 0xF3#8) supermemA) = .byte 3#8 := by decide

theorem witness_SelectorWriteResult :
    (card 0#8).model = .a ∧ (card 0#8).straps.selectorEnabled = true ∧ (vc 0#2).model ≠ .a
      ∧ supermemA.straps.selectorEnabled = false := by decide

theorem witness_RomLoadResult : (0x37FF#16).toNat < 0x3800 ∧ 0x3800 ≤ (0x3800#16).toNat := by decide

theorem witness_OnlyRomldWritesRom :
    exec .reset vb = .next (after .reset vb) ∧ ∀ a v, Instr.reset ≠ .romld a v :=
  ⟨rfl, fun _ _ h => nomatch h⟩

theorem witness_MemdecPortCycles :
    (vc 0#2).model = .c ∧ vb.model = .b ∧ (vd 0#2).model = .d ∧ supermemA.model = .a ∧ (card 0#8).model = .a
      ∧ (card 0#8).straps.selectorEnabled = true := by decide

theorem witness_GenericPortCyclesAgree : 0x42#8 ∉ readPorts ∧ 0x44#8 ∉ writePorts := by decide

theorem witness_HdcRegisterWrites : (0x0F#8).getLsbD 4 = false ∧ (0x18#8).getLsbD 4 = true := by decide

/-- V44-11 fails every open; four open slots fail none. -/
theorem witness_WriteProtectRead :
    ((fresh .b plain).openSlot .s0).1 = false
      ∧ ∀ d, (({ busy 0#8 0 with
          drv := ⟨(busy 0#8 0).drv.d0, (busy 0#8 0).drv.d0, (busy 0#8 0).drv.d0, (busy 0#8 0).drv.d0⟩ } : State).openSlot d).1
            = true :=
  ⟨by decide, fun d => by cases d <;> decide⟩

/-- An open slot, an absent medium, a short image, a bad and a good geometry. -/
theorem witness_OpenStepResult :
    ((busy 0#8 0).drv.get .s0).isOpen = true ∧ (vb.drv.get .s0).isOpen = false ∧ vb.media.get .s0 = none
      ∧ (withDisk disk).media.get .s0 = some disk
      ∧ ¬(disk.len < 256 ∨ ∃ pos, pos < 256 ∧ IoFaultAt.mk .s0 .read pos ∈ (withDisk disk).ioFaults)
      ∧ (disk.byteAt .s0 0 = 0x56#8 ∧ disk.byteAt .s0 1 = 0xCB#8 ∧ disk.byteAt .s0 2 = 0x10#8)
      ∧ ((disk.byteAt .s0 29).toNat % 10 = 0 ∧ 1 ≤ (disk.byteAt .s0 29).toNat / 10 ∧ (disk.byteAt .s0 29).toNat / 10 ≤ 8)
      ∧ ¬((disk.byteAt .s0 29).toNat % 32 = 0) ∧ ({ disk with len := 255 } : Image).len < 256 :=
  ⟨by decide, by decide, by decide, by decide, by rintro (h | ⟨_, _, h⟩) <;> revert h <;> simp [disk, withDisk, State.powerOn],
    by decide, by decide, by decide, by decide⟩

/-- Drive 0 is slot 0; a failing open, a range failure at the first head and sector past the end, and a success. -/
theorem witness_LocatingCommands :
    slotOfDrive vb.hdc.drive = some .s0 ∧ slotOfDrive 3#3 = some .s3 ∧ (vb.openSlot .s0).1 = false
      ∧ ((busy 0#8 0).openSlot .s0).1 = true ∧ ((busy 0#8 0).drv.get .s0).heads ≤ (1#4).toNat
      ∧ ((busy 0#8 0).drv.get .s0).sectorsPerTrack ≤ (10#8).toNat ∧ (0#4).toNat < ((busy 0#8 0).drv.get .s0).heads
      ∧ (9#8).toNat < ((busy 0#8 0).drv.get .s0).sectorsPerTrack := by decide

theorem witness_CommandPortRunsRow : vb.hdc.drive.getLsbD 2 = false := by decide

/-- Active at 255 bytes and not at 256; a position inside the image, one past it, a closed slot. -/
theorem witness_DataReadResult :
    let s := busy 0x27#8 255
    (s.hdc.command.extractLsb' 4 4 = 2#4 ∧ s.hdc.status.getLsbD 0 = false ∧ s.hdc.bytesdone < 256)
      ∧ slotOfDrive s.hdc.drive = some .s0 ∧ (s.drv.get .s0).isOpen = true ∧ s.media.get .s0 = some disk
      ∧ (s.drv.get .s0).fpos < disk.len ∧ IoFaultAt.mk .s0 .read (s.drv.get .s0).fpos ∉ s.ioFaults ∧ ¬((busy 0x20#8 256).hdc.bytesdone < 256)
      ∧ ({ disk with len := 511 } : Image).len ≤ (s.drv.get .s0).fpos ∧ (s.drv.get .s1).isOpen = false := by
  decide

theorem witness_DataWriteStores :
    let s := busy 0x30#8 2
    (s.hdc.command.extractLsb' 4 4 = 3#4 ∧ s.hdc.bytesdone < 256) ∧ slotOfDrive s.hdc.drive = some .s0
      ∧ (s.drv.get .s0).isOpen = true ∧ s.media.get .s0 = some disk ∧ disk.access = .rw ∧ NoFaultOn s .s0
      ∧ (s.hdc.cyl = 0#16 ∧ s.hdc.head = 0#4 ∧ s.hdc.secnum = 0#8 ∧ s.hdc.bytesdone = 2)
      ∧ ¬((busy 0x30#8 256).hdc.bytesdone < 256) :=
  ⟨by decide, by decide, by decide, by decide, by decide, fun _ h => (nomatch h), by decide, by decide⟩

/-- A read-only medium, at the last byte; and a flush that fails there (R329). -/
theorem witness_DataWriteFailure :
    let s := { busy 0x30#8 255 with ioFaults := [⟨.s0, .flush, 0⟩], media := ⟨some { disk with access := .ro }, none, none, none⟩ }
    s.hdc.command.extractLsb' 4 4 = 3#4 ∧ s.hdc.bytesdone < 256 ∧ slotOfDrive s.hdc.drive = some .s0
      ∧ (∃ img, s.media.get .s0 = some img ∧ img.access = .ro) ∧ (s.drv.get .s1).isOpen = false
      ∧ s.hdc.bytesdone = 255 ∧ IoFaultAt.mk .s0 .flush 0 ∈ s.ioFaults :=
  ⟨by decide, by decide, by decide, ⟨{ disk with access := .ro }, by decide, by decide⟩, by decide, by decide, by decide⟩

/-- A next state to speak of, for HdcStatusTable, BytesdoneProgress and BlocksShareNoState: an operation of each block and
one byte of a transfer. -/
theorem witness_next_states :
    (Instr.iordData).wellFormed = true ∧ exec .iordData (busy 0x20#8 0) = .next (after .iordData (busy 0x20#8 0))
      ∧ isHdcOperation .iordData = true ∧ (Instr.expWr 1#8).wellFormed = true
      ∧ exec (.expWr 1#8) supermemA = .next (after (.expWr 1#8) supermemA) ∧ isHdcOperation (.expWr 1#8) = false
      ∧ Instr.expWr 1#8 ≠ .reset :=
  ⟨by decide, rfl, by decide, by decide, rfl, by decide, by decide⟩

theorem imageOk_disk (s : State) (h : s.media = ⟨some disk, none, none, none⟩) (d : SlotId) : ImageOk s d := by
  intro img hi
  rw [h] at hi
  cases d <;> simp [PerDrive.get] at hi
  subst hi; decide

/-- The invariant holds in the middle of a transfer, with an operation pending: for InvariantKeptByStep,
NoFaultUnderInvariant and HeaderAndGeometryKept. -/
theorem witness_MachineInv :
    let s := (busy 0x30#8 255).withFetchWord 32 0x300C8AA
    MachineInv s ∧ step s = .next (after (.iowrData 0xAA#8) (busy 0x30#8 255)) ∧ (s.drv.get .s0).isOpen = true
      ∧ s.media.get .s0 = some disk := by
  refine ⟨⟨?_, ?_, ?_, ?_, fun d => imageOk_disk _ rfl d⟩, rfl, by decide, by decide⟩
  · unfold StoresOk; decide
  · unfold BankOk OffsetsMatchTable
    exact ⟨by decide, by decide, by decide, by decide, by decide, ⟨0#21, by decide⟩, by decide⟩
  · unfold HdcOk; decide
  · intro d; unfold SlotOk; cases d <;> decide

/-- A legal configuration with a canonical image, for InvariantAfterPowerOn. -/
theorem witness_InvariantAfterPowerOn :
    legalConfiguration .a { plain with sectorsPerTrack := 1 } = true
      ∧ legalConfiguration .c { plain with sectorsPerTrack := 255, huffmanRam := true } = true ∧ disk.bytes.wf = true
      ∧ disk.bytes.below disk.len = true := by decide

/-- The hypotheses of OffsetsMatchTableOnEveryVariant, on the variant where it is expected to fail. -/
theorem witness_OffsetsMatchTableOnEveryVariant :
    let s := { supermemA with bank := { supermemA.bank with lastCmd := .c6 } }
    MachineInv s ∧ OffsetsMatchTable s ∧ exec (.expWr 1#8) s = .next (after (.expWr 1#8) s) := by
  refine ⟨⟨?_, ?_, ?_, ?_, ?_⟩, ?_, rfl⟩
  · unfold StoresOk; decide
  · unfold BankOk OffsetsMatchTable
    exact ⟨by decide, by decide, by decide, by decide, by decide, ⟨0#21, by decide⟩, by decide⟩
  · unfold HdcOk; decide
  · intro d; unfold SlotOk; cases d <;> decide
  · intro d img h; cases d <;> simp [supermemA, fresh, State.powerOn, PerDrive.get] at h
  · unfold OffsetsMatchTable; decide

/-- The hypotheses of SectorRoundTrip, with the slot open before the WRITE. -/
theorem witness_SectorRoundTrip :
    let s := busy 0#8 0
    slotOfDrive s.hdc.drive = some .s0 ∧ (s.openSlot .s0).1 = true ∧ s.media.get .s0 = some disk ∧ disk.access = .rw
      ∧ NoFaultOn s .s0 ∧ s.hdc.head.toNat < ((s.openSlot .s0).2.drv.get .s0).heads
      ∧ s.hdc.secnum.toNat < ((s.openSlot .s0).2.drv.get .s0).sectorsPerTrack
      ∧ (List.replicate 256 0xA5#8).length = 256 :=
  ⟨by decide, by decide, by decide, by decide, fun _ h => (nomatch h), by decide, by decide, List.length_replicate ..⟩

/-- The same with the slot closed, so that the WRITE opens it. -/
theorem witness_SectorRoundTrip_closed :
    let s := withDisk disk
    (s.drv.get .s0).isOpen = false ∧ slotOfDrive s.hdc.drive = some .s0 ∧ (s.openSlot .s0).1 = true
      ∧ s.media.get .s0 = some disk ∧ disk.access = .rw
      ∧ NoFaultOn s .s0 ∧ s.hdc.head.toNat < ((s.openSlot .s0).2.drv.get .s0).heads
      ∧ s.hdc.secnum.toNat < ((s.openSlot .s0).2.drv.get .s0).sectorsPerTrack
      ∧ (List.replicate 256 0xA5#8).length = 256 :=
  ⟨by decide, by decide, by decide +kernel, by decide, by decide, fun _ h => (nomatch h), by decide +kernel,
    by decide +kernel, List.length_replicate ..⟩

end Sys2Proof.Tests
end

/-! # The two blocks share no state (00_scope.md R1, 70_reset_and_hazards.md R373)

Each shared operation of the model lies in the frame of one block: `HdcFrame` for what the controller may touch,
`MemdecFrame` for what the decoder and its storages may. The statement is then a case split over the operations. -/

namespace Sys2Proof.Machine
open Sys2Proof.Safety

/-! ### Frames of the two blocks -/

/-- `t` differs from `s` in the HDC's state (R5) and the model's outputs only. -/
def HdcFrame (s t : State) : Prop :=
  t = { s with hdc := t.hdc, drv := t.drv, media := t.media, answer := t.answer, events := t.events, draws := t.draws }

/-- `t` differs from `s` in MEMDEC's state (R4) and the model's outputs only. -/
def MemdecFrame (s t : State) : Prop :=
  t = { s with
    model := t.model, ram := t.ram, rom := t.rom, romSize := t.romSize, video := t.video, bank := t.bank
    answer := t.answer, events := t.events, draws := t.draws }

/-- Whatever next state the outcome gives satisfies `P`; a fault or a refusal gives none. -/
def NextHolds (P : State → Prop) (o : Host.Outcome State Fault Refusal) : Prop := ∀ t, o = .next t → P t

theorem NextHolds.next {P : State → Prop} {t : State} (h : P t) : NextHolds P (.next t) := by
  rintro _ ⟨⟩; exact h

theorem NextHolds.fault {P : State → Prop} {f : Fault} : NextHolds P (.fault f) := by
  rintro _ ⟨⟩

theorem NextHolds.refused {P : State → Prop} {r : Refusal} : NextHolds P (.refused r) := by
  rintro _ ⟨⟩

theorem HdcFrame.refl (s : State) : HdcFrame s s := rfl

theorem HdcFrame.trans {s t u : State} (h : HdcFrame s t) (k : HdcFrame t u) : HdcFrame s u := by
  unfold HdcFrame at *; rw [k, h]

theorem HdcFrame.done {s t : State} (h : HdcFrame s t) : NextHolds (HdcFrame s) t.done :=
  .next (h.trans rfl)

theorem HdcFrame.answerByte {s t : State} (h : HdcFrame s t) (v : Byte) : NextHolds (HdcFrame s) (t.answerByte v) :=
  .next (h.trans rfl)

/-- The frame of the HDC keeps everything of MEMDEC. -/
theorem HdcFrame.keeps_memdec {s t : State} (h : HdcFrame s t) :
    t.model = s.model ∧ t.ram = s.ram ∧ t.rom = s.rom ∧ t.romSize = s.romSize ∧ t.video = s.video ∧ t.bank = s.bank := by
  rw [h]; exact ⟨rfl, rfl, rfl, rfl, rfl, rfl⟩

theorem MemdecFrame.refl (s : State) : MemdecFrame s s := rfl

theorem MemdecFrame.trans {s t u : State} (h : MemdecFrame s t) (k : MemdecFrame t u) : MemdecFrame s u := by
  unfold MemdecFrame at *; rw [k, h]

theorem MemdecFrame.reply {s t : State} (h : MemdecFrame s t) (x : Answer) : MemdecFrame s (t.reply x) :=
  h.trans rfl

theorem MemdecFrame.done {s t : State} (h : MemdecFrame s t) : NextHolds (MemdecFrame s) t.done :=
  .next (h.reply _)

theorem MemdecFrame.answerByte {s t : State} (h : MemdecFrame s t) (v : Byte) :
    NextHolds (MemdecFrame s) (t.answerByte v) :=
  .next (h.reply _)

/-- The frame of MEMDEC keeps everything of the HDC. -/
theorem MemdecFrame.keeps_hdc {s t : State} (h : MemdecFrame s t) :
    t.hdc = s.hdc ∧ t.drv = s.drv ∧ t.media = s.media := by
  rw [h]; exact ⟨rfl, rfl, rfl⟩

/-! ### The HDC's shared operations -/

theorem State.openSlot_hdcFrame (s : State) (d : SlotId) : HdcFrame s (s.openSlot d).2 := by
  obtain ⟨⟨x, h, ev, e⟩, -⟩ := s.openSlot_spec d
  rw [e]; rfl

theorem State.locate_hdcFrame (s : State) (d : SlotId) : HdcFrame s (s.locate d).2 := by
  rcases s.locate_cases d with ⟨-, e⟩ | ⟨-, -, e⟩ | ⟨-, -, e⟩ <;> rw [e]
  · exact s.openSlot_hdcFrame d
  · exact (s.openSlot_hdcFrame d).trans rfl
  · exact (s.openSlot_hdcFrame d).trans rfl

theorem State.locateThen_hdcFrame (s : State) {done : State → State} (d : SlotId) (h : ∀ t, HdcFrame t (done t)) :
    HdcFrame s (s.locateThen done d) := by
  unfold State.locateThen
  simp only
  split
  · exact (s.locate_hdcFrame d).trans (h _)
  · exact s.locate_hdcFrame d

/-- An operation on the selected slot stays in the frame that its effect on each slot stays in. -/
theorem State.onSelectedSlot_hdcFrame {r : State} (s : State) {k : SlotId → State} (h : ∀ d, HdcFrame r (k d)) :
    NextHolds (HdcFrame r) (s.onSelectedSlot k) := by
  rcases s.onSelectedSlot_cases k with ⟨d, -, e⟩ | ⟨-, e⟩ <;> rw [e]
  · exact (h d).done
  · exact .fault

theorem State.cmdRestore_hdcFrame (s : State) (v : Byte) : NextHolds (HdcFrame s) (s.cmdRestore v) := .next rfl

theorem State.cmdTransfer_hdcFrame (s : State) (v : Byte) : NextHolds (HdcFrame s) (s.cmdTransfer v) :=
  State.onSelectedSlot_hdcFrame _ fun d =>
    HdcFrame.trans (t := s.startCommand v) rfl (State.locateThen_hdcFrame _ d fun _ => rfl)

theorem State.cmdDma_hdcFrame (s : State) (v : Byte) : NextHolds (HdcFrame s) (s.cmdDma v) := .next rfl

theorem State.cmdLocate_hdcFrame (s : State) (v : Byte) : NextHolds (HdcFrame s) (s.cmdLocate v) :=
  State.onSelectedSlot_hdcFrame _ fun d =>
    HdcFrame.trans (t := s.startCommand v) rfl (State.locateThen_hdcFrame _ d fun _ => rfl)

theorem State.cmdFormat_hdcFrame (s : State) (v : Byte) : NextHolds (HdcFrame s) (s.cmdFormat v) := by
  unfold State.cmdFormat
  simp only
  split <;> exact .next rfl

theorem State.cmdInit_hdcFrame (s : State) (v : Byte) : NextHolds (HdcFrame s) (s.cmdInit v) := .next rfl

theorem State.cmdUnknown_hdcFrame (s : State) (v : Byte) : NextHolds (HdcFrame s) (s.cmdUnknown v) := .next rfl

/-- Every command byte runs inside the HDC (R280). -/
theorem State.runCommand_hdcFrame (s : State) (v : Byte) : NextHolds (HdcFrame s) (s.runCommand v) := by
  rw [State.runCommand_opcode]
  split_ifs
  · exact s.cmdRestore_hdcFrame v
  · exact s.cmdDma_hdcFrame v
  · exact s.cmdTransfer_hdcFrame v
  · exact s.cmdLocate_hdcFrame v
  · exact s.cmdFormat_hdcFrame v
  · exact s.cmdInit_hdcFrame v
  · exact s.cmdUnknown_hdcFrame v

/-! ### The data port -/

theorem State.advance_hdcFrame (s : State) (d : SlotId) : HdcFrame s (s.advance d) := by
  rw [State.advance_eq]; rfl

theorem State.mediaWrite_hdcFrame (s : State) (d : SlotId) (pos : Nat) (v : Byte) :
    HdcFrame s (s.mediaWrite d pos v).2 := by
  rcases s.mediaWrite_cases d pos v with e | ⟨img, -, -, -, -, e⟩ <;> rw [e] <;> rfl

theorem State.quirkWrite_hdcFrame (s : State) (d : SlotId) (v : Byte) : HdcFrame s (s.quirkWrite d v).2 := by
  unfold State.quirkWrite
  split
  · exact s.mediaWrite_hdcFrame d _ v
  · rfl

theorem State.fetchData_hdcFrame (s : State) (d : SlotId) : HdcFrame s (s.fetchData d) := by
  unfold State.fetchData
  split
  · rename_i b _
    exact HdcFrame.trans (t := s.setData b) rfl (State.advance_hdcFrame _ d)
  · exact HdcFrame.trans (t := (s.setData (Config.failedFetchByte s.draws)).draw) rfl (State.advance_hdcFrame _ d)

theorem State.storeData_hdcFrame (s : State) (d : SlotId) (v : Byte) : HdcFrame s (s.storeData d v) := by
  have stored := ((s.quirkWrite_hdcFrame d v).trans (State.mediaWrite_hdcFrame _ d
    ((s.quirkWrite d v).2.drv.get d).fpos v)).trans (State.advance_hdcFrame _ d)
  unfold State.storeData
  extract_lets q w t flushed
  split
  · exact stored
  · exact stored.trans rfl

theorem State.readData_hdcFrame (s : State) : NextHolds (HdcFrame s) s.readData := by
  unfold State.readData
  split
  · split
    · exact .next ((s.fetchData_hdcFrame _).trans rfl)
    · exact .fault
  · exact .next rfl

theorem State.writeData_hdcFrame (s : State) (v : Byte) : NextHolds (HdcFrame s) (s.writeData v) := by
  unfold State.writeData
  simp only
  split
  · exact State.onSelectedSlot_hdcFrame _ fun d =>
      HdcFrame.trans (t := s.setData v) rfl (State.storeData_hdcFrame _ d v)
  · exact .next rfl

/-! ### The other HDC ports -/

theorem wpStep_hdcFrame (acc : Byte × State) (d : SlotId) : HdcFrame acc.2 (wpStep acc d).2 :=
  acc.2.openSlot_hdcFrame d

/-- The WP port opens every slot and touches nothing of MEMDEC (R251). -/
theorem State.readWp_hdcFrame (s : State) : HdcFrame s s.readWp.2 :=
  (((wpStep_hdcFrame (0x00#8, s) .s0).trans (wpStep_hdcFrame _ .s1)).trans (wpStep_hdcFrame _ .s2)).trans
    (wpStep_hdcFrame _ .s3)

/-- The soft reset "does not touch MEMDEC" (R373). -/
theorem State.writeControl_hdcFrame (s : State) (v : Byte) : HdcFrame s (s.writeControl v) := by
  unfold State.writeControl
  simp only
  split <;> rfl

theorem State.writeSdh_hdcFrame (s : State) (v : Byte) : HdcFrame s (s.writeSdh v) := by
  unfold State.writeSdh
  simp only
  split <;> rfl

/-! ### MEMDEC's operations -/

theorem BankFrame.memdecFrame {s t : State} (h : BankFrame s t) : MemdecFrame s t := by
  unfold BankFrame at h; rw [h]; rfl

theorem BusFrame.memdecFrame {s t : State} (h : BusFrame s t) : MemdecFrame s t := by
  obtain ⟨e, -⟩ := h
  rw [e]; rfl

theorem State.loadRom_memdecFrame (s : State) (a : Addr) (v : Byte) : MemdecFrame s (s.loadRom a v) := by
  unfold State.loadRom
  split <;> rfl

/-- SET_MODEL "does not touch the HDC" (R373). -/
theorem execSetModel_memdecFrame (m : Byte) (s : State) : NextHolds (MemdecFrame s) (execSetModel m s) := by
  unfold execSetModel
  split
  · exact .next rfl
  · split
    · exact .next rfl
    · exact .refused

/-! ### Port cycles outside the HDC -/

/-- The ports that reach the HDC (R250). -/
def hdcPorts : List Byte :=
  [0xC0#8, 0xC1#8, 0xC8#8, 0xC9#8, 0xCA#8, 0xCB#8, 0xCC#8, 0xCD#8, 0xCE#8, 0xCF#8]

theorem notMem_hdcPorts_of_notMem_readPorts {p : Byte} (h : p ∉ readPorts) : p ∉ hdcPorts :=
  mt ((by decide : ∀ q ∈ hdcPorts, q ∈ readPorts) p) h

theorem notMem_hdcPorts_of_notMem_writePorts {p : Byte} (h : p ∉ writePorts) : p ∉ hdcPorts :=
  mt ((by decide : ∀ q ∈ hdcPorts, q ∈ writePorts) p) h

/-- A read of a port outside the HDC only answers (R231). -/
theorem State.portRead_memdecFrame (s : State) {p : Byte} (hp : p ∉ hdcPorts) :
    NextHolds (MemdecFrame s) (s.portRead p) := by
  rcases s.portRead_cases p with ⟨rfl, -⟩ | ⟨rfl, -⟩ | ⟨-, -, x, e⟩
  · exact absurd (by decide) hp
  · exact absurd (by decide) hp
  · rw [e]; exact .next rfl

/-- A write of a port outside the HDC completes and moves the bank state and the events at most (R146, R232). -/
theorem State.portWrite_bankFrame (s : State) {p : Byte} (v : Byte) (hp : p ∉ hdcPorts) :
    ∃ t, s.portWrite p v = t.done ∧ BankFrame s t := by
  simp only [hdcPorts, List.mem_cons, List.not_mem_nil, or_false, not_or] at hp
  unfold State.portWrite
  simp only [hp, if_false]
  split_ifs
  · exact ⟨_, rfl, s.selectorWrite_frame v⟩
  · exact ⟨_, rfl, s.expansionWrite_frame v⟩
  · exact ⟨_, rfl, s.bankregWrite_frame v⟩
  · exact ⟨_, rfl, s.expansionWrite_frame v⟩
  · exact ⟨_, rfl, s.setRominOp_frame _⟩
  · exact ⟨_, rfl, .refl s⟩

theorem State.portWrite_memdecFrame (s : State) {p : Byte} (v : Byte) (hp : p ∉ hdcPorts) :
    NextHolds (MemdecFrame s) (s.portWrite p v) := by
  obtain ⟨t, e, h⟩ := s.portWrite_bankFrame v hp
  rw [e]; exact h.memdecFrame.done

/-! ### Every operation stays in its block -/

/-- Every operation of the HDC stays in the HDC's frame. -/
theorem exec_hdcFrame (i : Instr) (s : State) (h : isHdcOperation i = true) : NextHolds (HdcFrame s) (exec i s) := by
  cases i with
  | iordWp => exact s.readWp_hdcFrame.answerByte _
  | iordControl | iordError | iordSeccnt | iordSecnum | iordCyllo | iordCylhi | iordSdh | iordStatus =>
    exact (HdcFrame.refl s).answerByte _
  | iordData => exact s.readData_hdcFrame
  | iowrWp v | iowrPrecomp v => exact (HdcFrame.refl s).done
  | iowrControl v => exact (s.writeControl_hdcFrame v).done
  | iowrData v => exact s.writeData_hdcFrame v
  | iowrSeccnt v => exact HdcFrame.done (t := s.writeSeccnt v) rfl
  | iowrSecnum v => exact HdcFrame.done (t := s.writeSecnum v) rfl
  | iowrCyllo v => exact HdcFrame.done (t := s.writeCyllo v) rfl
  | iowrCylhi v => exact HdcFrame.done (t := s.writeCylhi v) rfl
  | iowrSdh v => exact (s.writeSdh_hdcFrame v).done
  | iowrCommand v => exact s.runCommand_hdcFrame v
  | restore low => exact s.cmdRestore_hdcFrame _
  | read low | write low => exact s.cmdTransfer_hdcFrame _
  | readDma low | writeDma low => exact s.cmdDma_hdcFrame _
  | verify low | seek low => exact s.cmdLocate_hdcFrame _
  | format low => exact s.cmdFormat_hdcFrame _
  | init low => exact s.cmdInit_hdcFrame _
  | unknown0 low | unknown8F low => exact s.cmdUnknown_hdcFrame _
  | _ => cases h

/-- Every well-formed operation that is neither the HDC's nor RESET stays in MEMDEC's frame. -/
theorem exec_memdecFrame (i : Instr) (s : State) (hw : i.wellFormed = true) (h : isHdcOperation i = false)
    (hr : i ≠ .reset) : NextHolds (MemdecFrame s) (exec i s) := by
  cases i with
  | reset => exact absurd rfl hr
  | memrd a => exact (s.readByte_frame a).memdecFrame.answerByte _
  | memwr a v => exact (s.writeByte_frame a v).memdecFrame.done
  | wordrd a => exact .next ((s.readWord_frame a).memdecFrame.reply _)
  | wordwr a w => exact (s.writeWord_frame a w).memdecFrame.done
  | block dst src count dir => exact (s.moveBytes_frame dir _ dst src _).memdecFrame.answerByte _
  | viewrd a | viewwr a => exact .next ((MemdecFrame.refl s).reply _)
  | romld a v => exact (s.loadRom_memdecFrame a v).done
  | setModel m => exact execSetModel_memdecFrame m s
  | setRomin b => exact (s.setRominOp_frame b).memdecFrame.done
  | mapSel n => exact (s.mapSelect_frame n).memdecFrame.done
  | bankCmd c | bankIllegal c => exact (s.bankCommand_frame c).memdecFrame.done
  | bank0 | bank2 | bank3 | bank6 | bank7 => exact (s.bankCommand_frame _).memdecFrame.done
  | videoPage w => exact MemdecFrame.done (t := s.setVideoPage w) rfl
  | expWr v => exact (s.expansionWrite_frame v).memdecFrame.done
  | expRd => exact (MemdecFrame.refl s).answerByte _
  | selWr v => exact (s.selectorWrite_frame v).memdecFrame.done
  | reservedKind rest => exact .refused
  | reservedSb number zero data => exact .refused
  | iord p => exact s.portRead_memdecFrame (notMem_hdcPorts_of_notMem_readPorts (of_decide_eq_true hw))
  | iowr p v => exact s.portWrite_memdecFrame v (notMem_hdcPorts_of_notMem_writePorts (of_decide_eq_true hw))
  | iordExpansionA => exact s.portRead_memdecFrame (p := 0x43#8) (by decide)
  | iordExpansionCd => exact s.portRead_memdecFrame (p := 0x94#8) (by decide)
  | iowrSelector v => exact s.portWrite_memdecFrame (p := 0x1F#8) v (by decide)
  | iowrExpansionA v => exact s.portWrite_memdecFrame (p := 0x43#8) v (by decide)
  | iowrBankreg v => exact s.portWrite_memdecFrame (p := 0x84#8) v (by decide)
  | iowrExpansionCd v => exact s.portWrite_memdecFrame (p := 0x94#8) v (by decide)
  | iowrRomctl v => exact s.portWrite_memdecFrame (p := 0x9C#8) v (by decide)
  | _ => cases h

/-- Settles O53: each operation runs inside the frame of its own block, and the frame of one block keeps the other's
state. -/
theorem blocksShareNoState : Obligations.BlocksShareNoState := by
  unfold Obligations.BlocksShareNoState
  intro i s t hw e
  exact ⟨fun h => (exec_hdcFrame i s h t e).keeps_memdec, fun h hr => (exec_memdecFrame i s hw h hr t e).keeps_hdc⟩

end Sys2Proof.Machine

/-! # The invariant of the machine (10_state.md) and what it rests on

`MachineInv` is a half about MEMDEC and a half about the HDC. For each block one relation says once what an operation can
do to it: `MemdecEffect` and `HdcEffect`. The invariant, R23 (only ROMLD writes the ROM) and R40 (how `bytesdone` moves)
are read off those relations. -/

namespace Sys2Proof.Machine
open Sys2Proof.Safety

/-! ### The mode code -/

theorem ModeCode.code_a (sub : BitVec 3) : (ModeCode.a sub).code = 0x10#7 ||| sub.zeroExtend 7 := by
  revert sub; decide

theorem ModeCode.code_c (map : BitVec 2) : (ModeCode.c map).code = 0x40#7 ||| map.zeroExtend 7 := by
  revert map; decide

theorem ModeCode.code_d (romin : Bool) (map : BitVec 2) :
    (ModeCode.d romin map).code = 0x50#7 ||| ((BitVec.ofBool romin).zeroExtend 7 <<< 2) ||| map.zeroExtend 7 := by
  revert romin map; decide

/-- The number lies in the 21 values that R27 lists. -/
def ModeCode.Listed (n : Nat) : Prop :=
  (0x10 ≤ n ∧ n ≤ 0x17) ∨ n = 0x30 ∨ (0x40 ≤ n ∧ n ≤ 0x43) ∨ (0x50 ≤ n ∧ n ≤ 0x57)

theorem ModeCode.code_listed (m : ModeCode) : ModeCode.Listed m.code.toNat := by
  unfold ModeCode.Listed
  cases m with
  | a sub => revert sub; decide
  | b => decide
  | c map => revert map; decide
  | d romin map => revert romin map; decide

theorem State.mode_of_a {s : State} (h : s.model = .a) :
    s.mode = .a (if s.straps.selectorEnabled then s.bank.selectorReg.extractLsb' 0 3 else 0#3) := by
  unfold State.mode; rw [h]

theorem State.mode_of_b {s : State} (h : s.model = .b) : s.mode = .b := by
  unfold State.mode; rw [h]

theorem State.mode_of_c {s : State} (h : s.model = .c) : s.mode = .c s.bank.mapSel := by
  unfold State.mode; rw [h]

theorem State.mode_of_d {s : State} (h : s.model = .d) : s.mode = .d s.bank.romin s.bank.mapSel := by
  unfold State.mode; rw [h]

/-- Settles O8: the mode by variant, then the number of each kind of mode. -/
theorem modeCodeFormula : Obligations.ModeCodeFormula := by
  unfold Obligations.ModeCodeFormula
  intro s
  refine ⟨fun hm card => ?_, fun hm card => ?_, fun hm => ?_, fun hm => ?_, fun hm => ?_, s.mode.code_listed⟩
  · rw [State.mode_of_a hm, if_pos card, ModeCode.code_a]
  · rw [State.mode_of_a hm, if_neg (Bool.eq_false_iff.1 card)]; rfl
  · rw [State.mode_of_b hm]; rfl
  · rw [State.mode_of_c hm, ModeCode.code_c]
  · rw [State.mode_of_d hm, ModeCode.code_d]

/-! ### The decoder answers well-formed operations only -/

/-- A port without a row is read as the generic row (R104, R231). -/
theorem decodeIord_of_notMem {p : Byte} (h : p ∉ readPorts) : decodeIord p = .iord p := by
  simp only [readPorts, List.mem_cons, List.not_mem_nil, or_false, not_or] at h
  simp only [decodeIord, h, if_false]

theorem decodeIowr_of_notMem {p : Byte} (v : Byte) (h : p ∉ writePorts) : decodeIowr p v = .iowr p v := by
  simp only [writePorts, List.mem_cons, List.not_mem_nil, or_false, not_or] at h
  simp only [decodeIowr, h, if_false]

theorem decodeIord_wellFormed (p : Byte) : (decodeIord p).wellFormed = true := by
  by_cases h : p ∈ readPorts
  · exact (by decide : ∀ q ∈ readPorts, (decodeIord q).wellFormed = true) p h
  · rw [decodeIord_of_notMem h]; exact decide_eq_true h

theorem decodeIowr_wellFormed (p v : Byte) : (decodeIowr p v).wellFormed = true := by
  by_cases h : p ∈ writePorts
  · simp only [writePorts, List.mem_cons, List.not_mem_nil, or_false] at h
    rcases h with rfl | rfl | rfl | rfl | rfl | rfl | rfl | rfl | rfl | rfl | rfl | rfl | rfl | rfl | rfl <;> rfl
  · rw [decodeIowr_of_notMem v h]; exact decide_eq_true h

theorem decodeSideBand_wellFormed (number zero data : Byte) : (decodeSideBand number zero data).wellFormed = true := by
  unfold decodeSideBand
  split_ifs with hz h0 h1 h2 h3 h4 h5 h6 h7 h8 <;> try rfl
  · simp [Instr.wellFormed, reservedSideBand, hz]
  · have : 9 ≤ number.toNat := by bv_omega
    simp [Instr.wellFormed, reservedSideBand, this]

theorem decodeKind_wellFormed (kind : BitVec 4) (hi lo data : Byte) :
    (decodeKind kind hi lo data).wellFormed = true := by
  unfold decodeKind
  split_ifs <;> try rfl
  · exact decodeIord_wellFormed lo
  · exact decodeIowr_wellFormed lo data
  · exact decodeSideBand_wellFormed hi lo data

theorem decodeBankByte_wellFormed (c : Byte) : (decodeBankByte c).wellFormed = true := by
  unfold decodeBankByte
  split_ifs <;> try rfl
  exact decide_eq_true (by simp [legalBankBytes, *])

theorem decodeCommandByte_wellFormed (v : Byte) : (decodeCommandByte v).wellFormed = true := by
  unfold decodeCommandByte decodeCommandFields
  split_ifs <;> rfl

/-- What the decoder reads from a request is an operation of its row (R91 to R115). -/
theorem decode_wellFormed {r : Request} {i : Instr} (h : decode r = .ok i) : i.wellFormed = true := by
  cases r with
  | word t =>
    simp only [decode] at h
    split at h
    · cases h; exact decodeKind_wellFormed ..
    · cases h
  | bankByte c => cases h; exact decodeBankByte_wellFormed c
  | commandByte v => cases h; exact decodeCommandByte_wellFormed v
  | wordrd a => cases h; rfl
  | wordwr a w => cases h; rfl
  | block dst src count dir => cases h; rfl
  | raw nbits w => cases h

/-- Everything a step that completes can do (R90, R355): nothing, or run a well-formed operation on the state with the
request taken. -/
theorem step_cases {s t : State} (h : step s = .next t) :
    t = s ∨ ∃ i pending, i.wellFormed = true ∧ exec i { s with pending := pending } = .next t := by
  unfold step at h
  split at h
  · unfold State.fetch at h
    rcases hp : s.pending with _ | ⟨r, rest⟩ <;> rw [hp] at h <;> simp only at h
    · cases h; exact .inl rfl
    · rcases hd : decode r with err | i <;> rw [hd] at h <;> simp only at h
      · cases h
      · exact .inr ⟨i, rest, decode_wellFormed hd, h⟩
  · cases h

/-! ### The bank state keeps its invariant -/

/-- `t` differs from `s` in the bank state and the events only, and its bank state is as good as that of `s`. -/
def BankKept (s t : State) : Prop := BankFrame s t ∧ (BankOk s → BankOk t)

theorem BankKept.refl (s : State) : BankKept s s := ⟨.refl s, id⟩

theorem BankKept.trans {s t u : State} (h : BankKept s t) (k : BankKept t u) : BankKept s u :=
  ⟨h.1.trans k.1, k.2 ∘ h.2⟩

theorem huffmanBase_le (v : Byte) : (huffmanBase v).toNat ≤ 0x1F0000 := by
  rw [huffmanBase_toNat]; omega

theorem supermemBase_le (v : Byte) : (supermemBase v).toNat ≤ 0x1F0000 := by
  rw [supermemBase_toNat]; omega

theorem selectorBase_le (v : Byte) : (selectorBase v).toNat ≤ 0x1F0000 := by
  revert v; decide

/-- A banking command re-applies the table with the current base (R133, R134). -/
theorem State.selectBank_kept (s : State) (c : BankCommand) : BankKept s (s.selectBank c) := by
  refine ⟨rfl, fun ⟨legal, romin, card, base, fixed, _, _⟩ => ?_⟩
  exact ⟨legal, romin, card, base, fixed, ⟨s.bank.bankBase, base, rfl, rfl⟩, fun _ _ => ⟨rfl, rfl⟩⟩

theorem State.bankCommand_kept (s : State) (c : Byte) : BankKept s (s.bankCommand c) := by
  rcases s.bankCommand_cases c with ⟨k, -, e⟩ | ⟨-, e⟩ <;> rw [e]
  · exact s.selectBank_kept k
  · exact ⟨rfl, id⟩

/-- SET_ROMIN moves `romin` on variant D only (R26, R131). -/
theorem State.setRominOp_kept (s : State) (b : Bool) : BankKept s (s.setRominOp b) := by
  refine ⟨s.setRominOp_frame b, fun inv => ?_⟩
  cases hm : s.model <;> simp only [State.setRominOp, hm]
  case d =>
    obtain ⟨legal, -, card, base, fixed, table, now⟩ := inv
    exact ⟨legal, fun h => absurd hm h, card, base, fixed, table, now⟩
  all_goals exact inv

theorem State.mapSelect_kept (s : State) (n : BitVec 2) : BankKept s (s.mapSelect n) := by
  refine ⟨s.mapSelect_frame n, fun inv => ?_⟩
  unfold State.mapSelect
  split <;> exact inv

theorem State.setVideoPage_kept (s : State) (w : Bool) : BankKept s (s.setVideoPage w) := ⟨rfl, id⟩

theorem State.bankregWrite_kept (s : State) (v : Byte) : BankKept s (s.bankregWrite v) :=
  ((s.setVideoPage_kept _).trans (State.bankCommand_kept _ _)).trans (State.mapSelect_kept _ _)

/-- Huffman re-applies the last command with its new base (R137); Supermem moves the base under the offsets (R138). -/
theorem State.expansionWrite_kept (s : State) (v : Byte) : BankKept s (s.expansionWrite v) := by
  refine ⟨s.expansionWrite_frame v, fun inv => ?_⟩
  obtain ⟨legal, romin, card, -, -, table, -⟩ := id inv
  unfold State.expansionWrite
  split_ifs with huffman supermem
  · refine ⟨legal, romin, card, huffmanBase_le v, fun h => ?_, ⟨_, huffmanBase_le v, rfl, rfl⟩, fun _ _ => ⟨rfl, rfl⟩⟩
    simp [noExpansion, huffman] at h
  · refine ⟨legal, romin, card, supermemBase_le v, fun h => ?_, table, fun h => ?_⟩
    · simp [noExpansion, supermem] at h
    · simp [supermem] at h
  · exact inv

/-- SEL_WR needs the card, and moves the base under the offsets (R141). -/
theorem State.selectorWrite_kept (s : State) (v : Byte) : BankKept s (s.selectorWrite v) := by
  refine ⟨s.selectorWrite_frame v, fun inv => ?_⟩
  obtain ⟨legal, romin, -, -, -, table, -⟩ := id inv
  unfold State.selectorWrite
  split_ifs with fitted
  · have card : s.straps.selectorEnabled = true := by
      simp only [State.hasSelector, Bool.and_eq_true] at fitted
      exact fitted.2
    refine ⟨legal, romin, fun h => ?_, selectorBase_le v, fun h => ?_, table, fun _ h => ?_⟩
    · simp [card] at h
    · simp [noExpansion, card] at h
    · simp [card] at h
  · exact inv

/-- The MEMDEC part of RESET leaves a good bank state in every legal configuration (R49). -/
theorem State.resetMemdec_bankOk {s : State} (legal : legalConfiguration s.model s.straps = true) :
    BankOk s.resetMemdec := by
  have base : (fixedBase s.model).toNat ≤ 0x1F0000 := by cases s.model <;> decide
  exact ⟨legal, fun h => decide_eq_false h, fun _ => rfl, base, fun _ => rfl, ⟨0#21, by decide, rfl, rfl⟩,
    fun _ _ => ⟨rfl, rfl⟩⟩

/-! ### What an operation can do to MEMDEC -/

/-- Everything a completed operation can do to MEMDEC: an operation of the HDC nothing, a bus operation move the RAM and
video stores, a banking operation move the bank state, ROMLD load a byte, SET_MODEL and RESET re-initialise. -/
inductive MemdecEffect (i : Instr) (s : State) : State → Prop
  | controller {t : State} (h : HdcFrame s t) : MemdecEffect i s t
  | bus {t : State} (x : Answer) (h : BusFrame s t) : MemdecEffect i s (t.reply x)
  | bank {t : State} (x : Answer) (h : BankKept s t) : MemdecEffect i s (t.reply x)
  | load (a : Addr) (v : Byte) (h : i = .romld a v) : MemdecEffect i s ((s.loadRom a v).reply .nothing)
  | model (m : Model) (h : legalConfiguration m s.straps = true) : MemdecEffect i s ((s.changeModel m).reply .nothing)
  | reset : MemdecEffect i s (s.resetMemdec.resetHdc.reply .nothing)

/-- An operation that only answers. -/
theorem MemdecEffect.answer (i : Instr) (s : State) (x : Answer) : MemdecEffect i s (s.reply x) := .bus x (.refl s)

theorem execSetModel_memdecEffect (i : Instr) (m : Byte) (s : State) :
    NextHolds (MemdecEffect i s) (execSetModel m s) := by
  unfold execSetModel
  split
  · exact .next (.bank _ ⟨rfl, id⟩)
  · split
    · exact .next (.model _ ‹_›)
    · exact .refused

theorem State.portRead_memdecEffect (i : Instr) (s : State) (p : Byte) :
    NextHolds (MemdecEffect i s) (s.portRead p) := by
  rcases s.portRead_cases p with ⟨-, e⟩ | ⟨-, e⟩ | ⟨-, -, x, e⟩ <;> rw [e]
  · exact .next (.controller (s.readWp_hdcFrame.trans rfl))
  · exact fun t h => .controller (s.readData_hdcFrame t h)
  · exact .next (.answer i s x)

theorem State.portWrite_memdecEffect (i : Instr) (s : State) (p v : Byte) :
    NextHolds (MemdecEffect i s) (s.portWrite p v) := by
  rcases s.portWrite_cases p v with ⟨-, e⟩ | ⟨-, e⟩ | ⟨-, -, t, e, h⟩ <;> rw [e]
  · exact fun t h => .controller (s.writeData_hdcFrame v t h)
  · exact fun t h => .controller (s.runCommand_hdcFrame v t h)
  · rcases h with rfl | rfl | rfl | rfl | rfl | ⟨-, rfl⟩ | rfl | rfl | rfl | rfl | rfl
    · exact .next (.answer ..)
    · exact .next (.bank _ (s.selectorWrite_kept v))
    · exact .next (.bank _ (s.expansionWrite_kept v))
    · exact .next (.bank _ (s.bankregWrite_kept v))
    · exact .next (.bank _ (s.setRominOp_kept _))
    · exact .next (.controller ((s.writeControl_hdcFrame v).trans rfl))
    · exact .next (.controller rfl)
    · exact .next (.controller rfl)
    · exact .next (.controller rfl)
    · exact .next (.controller rfl)
    · exact .next (.controller ((s.writeSdh_hdcFrame v).trans rfl))

/-- Every operation, well-formed or not, has one of these effects on MEMDEC. -/
theorem exec_memdecEffect (i : Instr) (s : State) : NextHolds (MemdecEffect i s) (exec i s) := by
  cases i with
  | memrd a => exact .next (.bus _ (s.readByte_frame a))
  | memwr a v => exact .next (.bus _ (s.writeByte_frame a v))
  | wordrd a => exact .next (.bus _ (s.readWord_frame a))
  | wordwr a w => exact .next (.bus _ (s.writeWord_frame a w))
  | block dst src count dir => exact .next (.bus _ (s.moveBytes_frame dir _ dst src _))
  | viewrd a | viewwr a | expRd => exact .next (.answer ..)
  | romld a v => exact .next (.load a v rfl)
  | setModel m => exact execSetModel_memdecEffect _ m s
  | reset => exact .next .reset
  | setRomin b => exact .next (.bank _ (s.setRominOp_kept b))
  | mapSel n => exact .next (.bank _ (s.mapSelect_kept n))
  | bankCmd c | bankIllegal c => exact .next (.bank _ (s.bankCommand_kept c))
  | bank0 | bank2 | bank3 | bank6 | bank7 => exact .next (.bank _ (s.bankCommand_kept _))
  | videoPage w => exact .next (.bank _ (s.setVideoPage_kept w))
  | expWr v => exact .next (.bank _ (s.expansionWrite_kept v))
  | selWr v => exact .next (.bank _ (s.selectorWrite_kept v))
  | reservedKind rest | reservedSb number zero data => exact .refused
  | iord p => exact s.portRead_memdecEffect _ p
  | iordExpansionA => exact s.portRead_memdecEffect _ 0x43#8
  | iordExpansionCd => exact s.portRead_memdecEffect _ 0x94#8
  | iowr p v => exact s.portWrite_memdecEffect _ p v
  | iowrSelector v => exact s.portWrite_memdecEffect _ 0x1F#8 v
  | iowrExpansionA v => exact s.portWrite_memdecEffect _ 0x43#8 v
  | iowrBankreg v => exact s.portWrite_memdecEffect _ 0x84#8 v
  | iowrExpansionCd v => exact s.portWrite_memdecEffect _ 0x94#8 v
  | iowrRomctl v => exact s.portWrite_memdecEffect _ 0x9C#8 v
  | _ => exact fun t h => .controller (exec_hdcFrame _ s rfl t h)

theorem BankFrame.keeps_rom {s t : State} (h : BankFrame s t) : t.rom = s.rom ∧ t.romSize = s.romSize := by
  rw [h]; exact ⟨rfl, rfl⟩

theorem BusFrame.keeps_rom {s t : State} (h : BusFrame s t) : t.rom = s.rom ∧ t.romSize = s.romSize := by
  rw [h.1]; exact ⟨rfl, rfl⟩

/-- Settles O37: of the effects an operation can have on MEMDEC only that of ROMLD writes the ROM. -/
theorem onlyRomldWritesRom : Obligations.OnlyRomldWritesRom := by
  unfold Obligations.OnlyRomldWritesRom
  intro i s t e other
  cases exec_memdecEffect i s t e with
  | controller h => obtain ⟨-, -, rom, size, -, -⟩ := h.keeps_memdec; exact ⟨rom, size⟩
  | bus x h => exact h.keeps_rom
  | bank x h => exact h.1.keeps_rom
  | load a v h => exact absurd h (other a v)
  | model m h => exact ⟨rfl, rfl⟩
  | reset => exact ⟨rfl, rfl⟩

/-! ### MEMDEC's half of the invariant -/

/-- The part of the invariant that speaks of MEMDEC. -/
def MemdecInv (s : State) : Prop := StoresOk s ∧ BankOk s

/-- The part of the invariant that speaks of the HDC. -/
def HdcInv (s : State) : Prop := HdcOk s ∧ (∀ d, SlotOk s d) ∧ ∀ d, ImageOk s d

theorem machineInv_iff (s : State) : MachineInv s ↔ MemdecInv s ∧ HdcInv s := by
  unfold MachineInv MemdecInv HdcInv; rw [and_assoc]

theorem HdcFrame.memdecInv {s t : State} (h : HdcFrame s t) (inv : MemdecInv s) : MemdecInv t := by
  rw [h]; exact inv

theorem MemdecFrame.hdcInv {s t : State} (h : MemdecFrame s t) (inv : HdcInv s) : HdcInv t := by
  rw [h]; exact inv

theorem BusFrame.memdecInv {s t : State} (h : BusFrame s t) (inv : MemdecInv s) : MemdecInv t := by
  obtain ⟨e, ramWf, ramBelow, videoWf, videoBelow⟩ := h
  obtain ⟨⟨ram, ramIn, rom, romIn, video, videoIn⟩, bank⟩ := inv
  have kept : t.rom.wf = true ∧ t.rom.below t.romSize.val = true ∧ BankOk t := by rw [e]; exact ⟨rom, romIn, bank⟩
  obtain ⟨rom', romIn', bank'⟩ := kept
  exact ⟨⟨ramWf ram, ramBelow ramIn, rom', romIn', videoWf video, videoBelow videoIn⟩, bank'⟩

theorem BankKept.memdecInv {s t : State} (h : BankKept s t) (inv : MemdecInv s) : MemdecInv t := by
  obtain ⟨frame, bank⟩ := h
  refine ⟨?_, bank inv.2⟩
  rw [frame]; exact inv.1

/-- A byte loaded lies below the ROM size that its load leaves (R145). -/
theorem State.loadRom_memdecInv {s : State} (a : Addr) (v : Byte) (inv : MemdecInv s) : MemdecInv (s.loadRom a v) := by
  unfold State.loadRom
  split
  · obtain ⟨⟨ram, ramIn, rom, romIn, video, videoIn⟩, bank⟩ := inv
    have size : s.romSize.val ≤ max s.romSize.val (a.toNat + 1) := Nat.le_max_left ..
    have loaded : a.toNat < max s.romSize.val (a.toNat + 1) := by omega
    exact ⟨⟨ram, ramIn, Memory.wf_store _ _ _ rom, Memory.below_store _ _ _ _ (Memory.below_mono _ romIn size) loaded,
      video, videoIn⟩, bank⟩
  · exact inv

/-- Every effect on MEMDEC keeps its half of the invariant. -/
theorem MemdecEffect.memdecInv {i : Instr} {s t : State} (h : MemdecEffect i s t) (inv : MemdecInv s) :
    MemdecInv t := by
  cases h with
  | controller h => exact h.memdecInv inv
  | bus x h => exact h.memdecInv inv
  | bank x h => exact h.memdecInv inv
  | load a v h => exact State.loadRom_memdecInv a v inv
  | model m h => exact ⟨inv.1, State.resetMemdec_bankOk (s := { s with model := m }) h⟩
  | reset => exact ⟨inv.1, State.resetMemdec_bankOk inv.2.1⟩

/-! ### One slot -/

/-- What the invariant asks of a slot's record, given the strap and the slot's medium. -/
def SlotFits (spt : Nat) (medium : Option Image) (x : Slot) : Prop :=
  (x.isOpen = false → x = .closed)
    ∧ (x.isOpen = true →
        1 ≤ x.heads ∧ x.heads ≤ 8 ∧ x.sectorsPerTrack = spt ∧ 1 ≤ x.cylinders ∧ x.cylinders ≤ 256 ∧ 256 ≤ x.fpos
          ∧ medium.isSome = true)

theorem slotOk_iff_fits (s : State) (d : SlotId) :
    SlotOk s d ↔ SlotFits s.straps.sectorsPerTrack (s.media.get d) (s.drv.get d) := Iff.rfl

theorem slotFits_closed (spt : Nat) (medium : Option Image) : SlotFits spt medium .closed :=
  ⟨fun _ => rfl, fun h => nomatch h⟩

/-- The record of an open that succeeds fits (R324, R326). -/
theorem slotFits_opened {spt heads : Nat} {d : SlotId} {img : Image}
    (h : headerHeads spt (img.byteAt d 29) = some heads) :
    SlotFits spt (some img) (openedSlot spt d img heads) := by
  obtain ⟨-, -, low, high⟩ := headerHeads_some.1 h
  obtain ⟨first, last⟩ := headerCylinders_range (img.byteAt d 28)
  exact ⟨fun h => (nomatch h), fun _ => ⟨low, high, rfl, first, last, Nat.le_refl 256, rfl⟩⟩

/-- An open slot may move to any position past the header. -/
theorem SlotFits.moved {spt pos : Nat} {medium : Option Image} {x : Slot} (h : SlotFits spt medium x)
    (isOpen : x.isOpen = true) (hp : 256 ≤ pos) : SlotFits spt medium { x with fpos := pos } := by
  obtain ⟨low, high, sectors, first, last, -, present⟩ := h.2 isOpen
  exact ⟨fun h => absurd (isOpen.symm.trans h) (by decide), fun _ => ⟨low, high, sectors, first, last, hp, present⟩⟩

/-- An image that is written stays there. -/
theorem SlotFits.medium {spt : Nat} {medium : Option Image} {x : Slot} (h : SlotFits spt medium x) (img : Image) :
    SlotFits spt (some img) x := by
  refine ⟨h.1, fun isOpen => ?_⟩
  obtain ⟨low, high, sectors, first, last, pos, -⟩ := h.2 isOpen
  exact ⟨low, high, sectors, first, last, pos, rfl⟩

theorem State.setSlot_slots {s : State} {d : SlotId} {x : Slot} (h : ∀ e, SlotOk s e)
    (hx : SlotFits s.straps.sectorsPerTrack (s.media.get d) x) (e : SlotId) : SlotOk (s.setSlot d x) e := by
  rw [slotOk_iff_fits, State.setSlot_drv, PerDrive.get_set]
  split
  · subst e; exact hx
  · exact h e

theorem State.setImage_slots {s : State} (d : SlotId) (img : Image) (h : ∀ e, SlotOk s e) (e : SlotId) :
    SlotOk (s.setImage d img) e := by
  rw [slotOk_iff_fits, State.setImage_media, PerDrive.get_set]
  split
  · exact ((slotOk_iff_fits s e).1 (h e)).medium img
  · exact h e

theorem State.setImage_images {s : State} {d : SlotId} {img : Image} (h : ∀ e, ImageOk s e)
    (hi : img.bytes.wf = true ∧ img.bytes.below img.len = true) (e : SlotId) : ImageOk (s.setImage d img) e := by
  intro img' found
  rw [State.setImage_media, PerDrive.get_set] at found
  split at found
  · cases found; exact hi
  · exact h e img' found

/-- A byte written lies inside the length its write leaves (R322). -/
theorem Image.put_canonical {img : Image} (pos : Nat) (v : Byte)
    (h : img.bytes.wf = true ∧ img.bytes.below img.len = true) :
    (img.put pos v).bytes.wf = true ∧ (img.put pos v).bytes.below (img.put pos v).len = true := by
  have grown : img.len ≤ max img.len (pos + 1) := Nat.le_max_left ..
  have stored : pos < max img.len (pos + 1) := by omega
  exact ⟨Memory.wf_store _ _ _ h.1, Memory.below_store _ _ _ _ (Memory.below_mono _ h.2 grown) stored⟩

/-! ### What the HDC's shared operations can do -/

/-- `t` is as good as `s` in everything the invariant asks of the HDC but the counter `bytesdone`, which is `n`. -/
structure HdcUpdate (s t : State) (n : Nat) : Prop where
  bytesdone : t.hdc.bytesdone = n
  status : (s.hdc.status, s.hdc.error) ∈ statusPairs → (t.hdc.status, t.hdc.error) ∈ statusPairs
  drive : s.hdc.drive.getLsbD 2 = false → t.hdc.drive.getLsbD 2 = false
  head : s.hdc.head.getLsbD 3 = false → t.hdc.head.getLsbD 3 = false
  slots : (∀ d, SlotOk s d) → ∀ d, SlotOk t d
  images : (∀ d, ImageOk s d) → ∀ d, ImageOk t d

theorem HdcUpdate.refl (s : State) : HdcUpdate s s s.hdc.bytesdone := ⟨rfl, id, id, id, id, id⟩

theorem HdcUpdate.trans {s t u : State} {m n : Nat} (h : HdcUpdate s t m) (k : HdcUpdate t u n) : HdcUpdate s u n :=
  ⟨k.bytesdone, k.status ∘ h.status, k.drive ∘ h.drive, k.head ∘ h.head, k.slots ∘ h.slots, k.images ∘ h.images⟩

/-- Followed by an operation that leaves `bytesdone`. -/
theorem HdcUpdate.andThen {s t u : State} {n : Nat} (h : HdcUpdate s t n) (k : HdcUpdate t u t.hdc.bytesdone) :
    HdcUpdate s u n := by
  have kept := h.trans k
  rwa [h.bytesdone] at kept

theorem HdcUpdate.reply {s t : State} {n : Nat} (h : HdcUpdate s t n) (x : Answer) : HdcUpdate s (t.reply x) n :=
  h.andThen ⟨rfl, id, id, id, id, id⟩

theorem HdcUpdate.hdcInv {s t : State} {n : Nat} (h : HdcUpdate s t n) (hn : n ≤ 256) (inv : HdcInv s) : HdcInv t := by
  obtain ⟨⟨status, -, drive, head⟩, slots, images⟩ := inv
  exact ⟨⟨h.status status, h.bytesdone ▸ hn, h.drive drive, h.head head⟩, h.slots slots, h.images images⟩

theorem State.report_update (s : State) (c : DiagCode) : HdcUpdate s (s.report c) s.hdc.bytesdone :=
  ⟨rfl, id, id, id, id, id⟩

theorem State.draw_update (s : State) : HdcUpdate s s.draw s.hdc.bytesdone := ⟨rfl, id, id, id, id, id⟩

theorem State.setStatus_update (s : State) {x y : Byte} (h : (x, y) ∈ statusPairs) :
    HdcUpdate s (s.setStatus x y) s.hdc.bytesdone :=
  ⟨rfl, fun _ => h, id, id, id, id⟩

theorem State.setReady_update (s : State) : HdcUpdate s s.setReady s.hdc.bytesdone := s.setStatus_update (by decide)

theorem State.setReadyDrq_update (s : State) : HdcUpdate s s.setReadyDrq s.hdc.bytesdone :=
  s.setStatus_update (by decide)

theorem State.setError_update (s : State) {code : Byte} (h : (stError, code) ∈ statusPairs) :
    HdcUpdate s (s.setError code) s.hdc.bytesdone := s.setStatus_update h

theorem State.setData_update (s : State) (v : Byte) : HdcUpdate s (s.setData v) s.hdc.bytesdone :=
  ⟨rfl, id, id, id, id, id⟩

theorem State.startCommand_update (s : State) (v : Byte) : HdcUpdate s (s.startCommand v) 0 :=
  ⟨rfl, id, id, id, id, id⟩

theorem State.setSlot_update (s : State) {d : SlotId} {x : Slot}
    (h : SlotOk s d → SlotFits s.straps.sectorsPerTrack (s.media.get d) x) :
    HdcUpdate s (s.setSlot d x) s.hdc.bytesdone :=
  ⟨rfl, id, id, id, fun slots => State.setSlot_slots slots (h (slots d)), id⟩

theorem State.setFpos_update (s : State) {d : SlotId} {pos : Nat} (isOpen : (s.drv.get d).isOpen = true)
    (h : SlotOk s d → 256 ≤ pos) : HdcUpdate s (s.setFpos d pos) s.hdc.bytesdone :=
  s.setSlot_update fun ok => SlotFits.moved ok isOpen (h ok)

theorem State.openFail_update (s : State) (d : SlotId) : HdcUpdate s (s.openFail d) s.hdc.bytesdone :=
  (s.setSlot_update fun _ => slotFits_closed ..).andThen (State.setError_update _ (by decide))

/-- The open step leaves the slot closed and zeroed or open with a legal geometry (R324 to R327). -/
theorem State.openSlot_update (s : State) (d : SlotId) : HdcUpdate s (s.openSlot d).2 s.hdc.bytesdone := by
  rcases s.openSlot_cases d with
    ⟨-, e⟩ | ⟨-, -, e⟩ | ⟨img, -, -, -, e⟩ | ⟨img, -, -, -, -, e⟩ | ⟨img, heads, -, medium, -, geometry, e⟩ <;> rw [e]
  · exact .refl s
  · exact s.openFail_update d
  · exact (s.report_update _).andThen (State.openFail_update _ d)
  · exact (s.report_update _).andThen (State.openFail_update _ d)
  · exact s.setSlot_update fun _ => by rw [medium]; exact slotFits_opened geometry

/-- Locate leaves the position of the slot past the header (R290 to R292). -/
theorem State.locate_update (s : State) (d : SlotId) : HdcUpdate s (s.locate d).2 s.hdc.bytesdone := by
  rcases s.locate_cases d with ⟨-, e⟩ | ⟨-, -, e⟩ | ⟨opened, -, e⟩ <;> rw [e]
  · exact s.openSlot_update d
  · exact (s.openSlot_update d).andThen (State.setError_update _ (by decide))
  · obtain ⟨-, isOpen, -⟩ := s.openSlot_spec d
    exact (s.openSlot_update d).andThen
      (State.setFpos_update _ (isOpen.trans opened) fun _ => Nat.le_add_right ..)

theorem State.locateThen_update (s : State) {done : State → State} (d : SlotId)
    (h : ∀ t, HdcUpdate t (done t) t.hdc.bytesdone) : HdcUpdate s (s.locateThen done d) s.hdc.bytesdone := by
  unfold State.locateThen
  simp only
  split
  · exact (s.locate_update d).andThen (h _)
  · exact s.locate_update d

theorem State.mediaWrite_update (s : State) (d : SlotId) (pos : Nat) (v : Byte) :
    HdcUpdate s (s.mediaWrite d pos v).2 s.hdc.bytesdone := by
  rcases s.mediaWrite_cases d pos v with e | ⟨img, -, medium, -, -, e⟩ <;> rw [e]
  · exact .refl s
  · exact ⟨rfl, id, id, id, State.setImage_slots d _,
      fun images => State.setImage_images images (Image.put_canonical pos v (images d img medium))⟩

theorem State.quirkWrite_update (s : State) (d : SlotId) (v : Byte) :
    HdcUpdate s (s.quirkWrite d v).2 s.hdc.bytesdone := by
  unfold State.quirkWrite
  split
  · exact s.mediaWrite_update d _ v
  · exact .refl s

/-- Progress counts one byte, and moves an open slot's position forward (R293, R295). -/
theorem State.advance_update (s : State) (d : SlotId) : HdcUpdate s (s.advance d) (s.hdc.bytesdone + 1) := by
  have counted (t : State) :
      HdcUpdate t { t with hdc := { t.hdc with bytesdone := t.hdc.bytesdone + 1 } } (t.hdc.bytesdone + 1) :=
    ⟨rfl, id, id, id, id, id⟩
  unfold State.advance
  simp only
  split
  · rename_i isOpen
    refine (s.setFpos_update isOpen fun ok => ?_).trans (counted _)
    obtain ⟨-, -, -, -, -, pos, -⟩ := ok.2 isOpen
    omega
  · exact counted s

theorem State.fetchData_update (s : State) (d : SlotId) : HdcUpdate s (s.fetchData d) (s.hdc.bytesdone + 1) := by
  unfold State.fetchData
  split
  · exact (s.setData_update _).trans (State.advance_update _ d)
  · exact ((s.setData_update _).andThen (State.draw_update _)).trans (State.advance_update _ d)

theorem State.storeData_update (s : State) (d : SlotId) (v : Byte) :
    HdcUpdate s (s.storeData d v) (s.hdc.bytesdone + 1) := by
  have written := (s.quirkWrite_update d v).andThen (State.mediaWrite_update _ d ((s.quirkWrite d v).2.drv.get d).fpos v)
  have stored := written.trans (State.advance_update _ d)
  rw [written.bytesdone] at stored
  unfold State.storeData
  extract_lets q w t flushed
  split
  · exact stored
  · exact stored.andThen (State.setError_update _ (by decide))

theorem wpStep_update (acc : Byte × State) (d : SlotId) : HdcUpdate acc.2 (wpStep acc d).2 acc.2.hdc.bytesdone :=
  acc.2.openSlot_update d

theorem State.readWp_update (s : State) : HdcUpdate s s.readWp.2 s.hdc.bytesdone :=
  (((wpStep_update (0x00#8, s) .s0).andThen (wpStep_update _ .s1)).andThen (wpStep_update _ .s2)).andThen
    (wpStep_update _ .s3)

theorem State.resetHdc_update (s : State) : HdcUpdate s s.resetHdc 0 := by
  have pair : ((0x00#8, 0x00#8) : Byte × Byte) ∈ statusPairs := by decide
  refine ⟨rfl, fun _ => pair, fun _ => BitVec.getLsbD_zero, fun _ => BitVec.getLsbD_zero, fun _ d => ?_, id⟩
  rw [slotOk_iff_fits, State.resetHdc_drv, PerDrive.get_closed]
  exact slotFits_closed ..

theorem State.writeSdh_update (s : State) (v : Byte) : HdcUpdate s (s.writeSdh v) s.hdc.bytesdone := by
  unfold State.writeSdh
  simp only
  split <;> exact ⟨rfl, id, fun _ => sdhDrive_bit2 v, fun _ => sdhHead_bit3 v, id, id⟩

/-! ### The commands clear the counter -/

theorem State.onSelectedSlot_holds {P : State → Prop} (s : State) {k : SlotId → State}
    (h : ∀ d, P ((k d).reply .nothing)) : NextHolds P (s.onSelectedSlot k) := by
  rcases s.onSelectedSlot_cases k with ⟨d, -, e⟩ | ⟨-, e⟩ <;> rw [e]
  · exact .next (h d)
  · exact .fault

theorem State.cmdRestore_update (s : State) (v : Byte) : NextHolds (HdcUpdate s · 0) (s.cmdRestore v) := by
  have homed : HdcUpdate s { s.startCommand v with hdc := { (s.startCommand v).hdc with cyl := 0x0000#16 } } 0 :=
    ⟨rfl, id, id, id, id, id⟩
  exact .next ((homed.andThen (State.setReady_update _)).reply _)

theorem State.cmdTransfer_update (s : State) (v : Byte) : NextHolds (HdcUpdate s · 0) (s.cmdTransfer v) :=
  State.onSelectedSlot_holds _ fun d =>
    ((s.startCommand_update v).andThen (State.locateThen_update _ d State.setReadyDrq_update)).reply _

theorem State.cmdDma_update (s : State) (v : Byte) : NextHolds (HdcUpdate s · 0) (s.cmdDma v) :=
  .next ((((s.startCommand_update v).andThen (State.report_update _ _)).andThen
    (State.setError_update _ (by decide))).reply _)

theorem State.cmdLocate_update (s : State) (v : Byte) : NextHolds (HdcUpdate s · 0) (s.cmdLocate v) :=
  State.onSelectedSlot_holds _ fun d =>
    ((s.startCommand_update v).andThen (State.locateThen_update _ d State.setReady_update)).reply _

theorem State.cmdFormat_update (s : State) (v : Byte) : NextHolds (HdcUpdate s · 0) (s.cmdFormat v) := by
  unfold State.cmdFormat
  simp only
  split
  · exact .next (((s.startCommand_update v).andThen (State.setReady_update _)).reply _)
  · exact .next ((((s.startCommand_update v).andThen (State.report_update _ _)).andThen
      (State.setReady_update _)).reply _)

theorem State.cmdInit_update (s : State) (v : Byte) : NextHolds (HdcUpdate s · 0) (s.cmdInit v) :=
  .next ((((s.startCommand_update v).andThen (State.report_update _ _)).andThen (State.setReady_update _)).reply _)

theorem State.cmdUnknown_update (s : State) (v : Byte) : NextHolds (HdcUpdate s · 0) (s.cmdUnknown v) :=
  .next (((s.startCommand_update v).andThen (State.report_update _ _)).reply _)

/-- Every command byte sets `bytesdone` to 0 and keeps the rest of the invariant (R280). -/
theorem State.runCommand_update (s : State) (v : Byte) : NextHolds (HdcUpdate s · 0) (s.runCommand v) := by
  rw [State.runCommand_opcode]
  split_ifs
  · exact s.cmdRestore_update v
  · exact s.cmdDma_update v
  · exact s.cmdTransfer_update v
  · exact s.cmdLocate_update v
  · exact s.cmdFormat_update v
  · exact s.cmdInit_update v
  · exact s.cmdUnknown_update v

/-! ### What an operation can do to the HDC -/

/-- The operation is a data access of a READ or a WRITE in command (R293, R295). -/
def TransferAccess (i : Instr) (s : State) : Prop :=
  (i = .iordData ∧ s.hdc.command.extractLsb' 4 4 = 2#4)
    ∨ ((∃ v, i = .iowrData v) ∧ s.hdc.command.extractLsb' 4 4 = 3#4)

/-- Everything a completed operation of the HDC can do to the counter (R40), the rest of the invariant being kept. -/
inductive HdcEffect (i : Instr) (s t : State) : Prop
  | kept (h : HdcUpdate s t s.hdc.bytesdone)
  | cleared (h : HdcUpdate s t 0)
  | advanced (h : HdcUpdate s t (s.hdc.bytesdone + 1)) (below : s.hdc.bytesdone < 256) (access : TransferAccess i s)

theorem State.fetching_iff (s : State) :
    s.fetching = true ↔ s.hdc.command.extractLsb' 4 4 = 2#4 ∧ s.errPending = false ∧ s.hdc.bytesdone < 256 := by
  unfold State.fetching
  rw [Bool.and_eq_true, Bool.and_eq_true, decide_eq_true_eq, decide_eq_true_eq, Bool.not_eq_true', and_assoc]
  rfl

theorem State.storing_iff (s : State) :
    s.storing = true ↔ s.hdc.command.extractLsb' 4 4 = 3#4 ∧ s.hdc.bytesdone < 256 := by
  unfold State.storing
  rw [Bool.and_eq_true, decide_eq_true_eq, decide_eq_true_eq]
  rfl

theorem State.readData_hdcEffect (s : State) : NextHolds (HdcEffect .iordData s) s.readData := by
  unfold State.readData
  split
  · rename_i active
    obtain ⟨reading, -, below⟩ := s.fetching_iff.1 active
    split
    · exact .next (.advanced ((s.fetchData_update _).reply _) below (.inl ⟨rfl, reading⟩))
    · exact .fault
  · exact .next (.kept ((HdcUpdate.refl s).reply _))

theorem State.writeData_hdcEffect (s : State) (v : Byte) : NextHolds (HdcEffect (.iowrData v) s) (s.writeData v) := by
  unfold State.writeData
  simp only
  split
  · rename_i active
    obtain ⟨writing, below⟩ := s.storing_iff.1 active
    exact State.onSelectedSlot_holds _ fun d =>
      .advanced (((s.setData_update v).trans (State.storeData_update _ d v)).reply _) below (.inr ⟨⟨v, rfl⟩, writing⟩)
  · exact .next (.kept ((s.setData_update v).reply _))

/-- The soft reset clears the HDC; without it only the control register moves (R252). -/
theorem State.writeControl_hdcEffect (i : Instr) (s : State) (v : Byte) :
    HdcEffect i s ((s.writeControl v).reply .nothing) := by
  unfold State.writeControl
  simp only
  split
  · exact .cleared (s.resetHdc_update.trans ⟨rfl, id, id, id, id, id⟩)
  · exact .kept ⟨rfl, id, id, id, id, id⟩

/-- Every operation of the HDC has one of these effects on it. -/
theorem exec_hdcEffect (i : Instr) (s : State) (h : isHdcOperation i = true) : NextHolds (HdcEffect i s) (exec i s) := by
  cases i with
  | iordWp => exact .next (.kept (s.readWp_update.reply _))
  | iordControl | iordError | iordSeccnt | iordSecnum | iordCyllo | iordCylhi | iordSdh | iordStatus | iowrWp v
  | iowrPrecomp v => exact .next (.kept ((HdcUpdate.refl s).reply _))
  | iordData => exact s.readData_hdcEffect
  | iowrData v => exact s.writeData_hdcEffect v
  | iowrControl v => exact .next (s.writeControl_hdcEffect _ v)
  | iowrSeccnt v | iowrSecnum v | iowrCyllo v | iowrCylhi v => exact .next (.kept ⟨rfl, id, id, id, id, id⟩)
  | iowrSdh v => exact .next (.kept ((s.writeSdh_update v).reply _))
  | iowrCommand v => exact fun t e => .cleared (s.runCommand_update v t e)
  | restore low => exact fun t e => .cleared (s.cmdRestore_update _ t e)
  | read low | write low => exact fun t e => .cleared (s.cmdTransfer_update _ t e)
  | readDma low | writeDma low => exact fun t e => .cleared (s.cmdDma_update _ t e)
  | verify low | seek low => exact fun t e => .cleared (s.cmdLocate_update _ t e)
  | format low => exact fun t e => .cleared (s.cmdFormat_update _ t e)
  | init low => exact fun t e => .cleared (s.cmdInit_update _ t e)
  | unknown0 low | unknown8F low => exact fun t e => .cleared (s.cmdUnknown_update _ t e)
  | _ => cases h

/-- Every effect on the HDC keeps its half of the invariant: the counter stays at most 256 since only an access below
256 advances it. -/
theorem HdcEffect.hdcInv {i : Instr} {s t : State} (h : HdcEffect i s t) (inv : HdcInv s) : HdcInv t := by
  obtain ⟨⟨-, bytesdone, -, -⟩, -, -⟩ := id inv
  cases h with
  | kept h => exact h.hdcInv bytesdone inv
  | cleared h => exact h.hdcInv (Nat.zero_le _) inv
  | advanced h below access => exact h.hdcInv below inv

/-- Settles O52: RESET clears the counter, an operation outside the HDC leaves it, and one of the HDC has one of the
effects of R40. -/
theorem bytesdoneProgress : Obligations.BytesdoneProgress := by
  unfold Obligations.BytesdoneProgress
  intro i s t hw e
  by_cases hr : i = .reset
  · subst hr; cases e; exact .inr (.inl rfl)
  cases hi : isHdcOperation i with
  | false =>
    obtain ⟨hdc, -, -⟩ := (exec_memdecFrame i s hw hi hr t e).keeps_hdc
    exact .inl (by rw [hdc])
  | true =>
    cases exec_hdcEffect i s hi t e with
    | kept h => exact .inl h.bytesdone
    | cleared h => exact .inr (.inl h.bytesdone)
    | advanced h below access => exact .inr (.inr ⟨h.bytesdone, below, access⟩)

/-! ### The invariant of the machine -/

/-- Every well-formed operation keeps the invariant: each block's half by its effects, or by the frame of the other
block. -/
theorem exec_keeps_machineInv {i : Instr} {s t : State} (hw : i.wellFormed = true) (inv : MachineInv s)
    (e : exec i s = .next t) : MachineInv t := by
  obtain ⟨memdec, hdc⟩ := (machineInv_iff s).1 inv
  refine (machineInv_iff t).2 ⟨(exec_memdecEffect i s t e).memdecInv memdec, ?_⟩
  by_cases hr : i = .reset
  · subst hr; cases e
    exact (s.resetMemdec.resetHdc_update.reply .nothing).hdcInv (Nat.zero_le _) hdc
  cases hi : isHdcOperation i with
  | false => exact (exec_memdecFrame i s hw hi hr t e).hdcInv hdc
  | true => exact (exec_hdcEffect i s hi t e).hdcInv hdc

/-- Settles O55: a step does nothing or runs a well-formed operation, and the invariant does not look at what is
pending. -/
theorem invariantKeptByStep : Obligations.InvariantKeptByStep := by
  unfold Obligations.InvariantKeptByStep
  intro s t inv h
  rcases step_cases h with rfl | ⟨i, pending, hw, e⟩
  · exact inv
  · exact exec_keeps_machineInv (s := { s with pending := pending }) hw inv e

/-- Power-on of a legal configuration with canonical images satisfies the invariant (R49, R50, R372). -/
theorem powerOn_machineInv {m : Model} {x : Straps} {media : PerDrive (Option Image)} (faults : List IoFaultAt)
    (legal : legalConfiguration m x = true)
    (images : ∀ d img, media.get d = some img → img.bytes.wf = true ∧ img.bytes.below img.len = true) :
    MachineInv (.powerOn m x media faults) := by
  have bank : BankOk (.powerOn m x media faults) :=
    State.resetMemdec_bankOk (s := .powerOn m x media faults) legal
  have pair : ((0x00#8, 0x00#8) : Byte × Byte) ∈ statusPairs := by decide
  have hdc : HdcOk (.powerOn m x media faults) :=
    ⟨pair, Nat.zero_le _, BitVec.getLsbD_zero, BitVec.getLsbD_zero⟩
  refine ⟨⟨rfl, rfl, rfl, rfl, rfl, rfl⟩, bank, hdc, fun d => ?_, images⟩
  rw [slotOk_iff_fits]
  exact PerDrive.get_closed d ▸ slotFits_closed ..

/-- Settles O54: `State.reset` is a power-on without media. -/
theorem invariantAfterPowerOn : Obligations.InvariantAfterPowerOn := by
  unfold Obligations.InvariantAfterPowerOn
  refine ⟨powerOn_machineInv [] (by decide) fun d img h => ?_, fun m x media faults => powerOn_machineInv faults⟩
  cases d <;> cases h

/-! ### Supermem moves the base under the offsets -/

/-- Variant A with Supermem, 32 sectors per track and no media, after power-on. -/
def supermemPowerOn : State :=
  .powerOn .a { huffmanRam := false, supermem := true, selectorEnabled := false, sectorsPerTrack := 32 }
    ⟨none, none, none, none⟩ []

/-- The same after BANK_CMD 6, which makes `bank_offset[0]` the base, still 0. -/
def supermemBank6 : State := (supermemPowerOn.selectBank .c6).reply .nothing

theorem supermemBank6_machineInv : MachineInv supermemBank6 := by
  have start : MachineInv supermemPowerOn :=
    powerOn_machineInv [] (by decide) fun d img h => by cases d <;> cases h
  exact exec_keeps_machineInv (i := .bankCmd 6#8) rfl start rfl

/-- Refutes O57: after power-on with Supermem and BANK_CMD 6, EXP_WR 1 moves the base to 0x8000 and leaves
`bank_offset[0]` at 0 (R138; log 14). -/
theorem not_offsetsMatchTableOnEveryVariant : ¬ Obligations.OffsetsMatchTableOnEveryVariant := by
  unfold Obligations.OffsetsMatchTableOnEveryVariant
  intro h
  have before : OffsetsMatchTable supermemBank6 := ⟨rfl, rfl⟩
  obtain ⟨offset0, -⟩ := h supermemBank6 _ (.expWr 1#8) supermemBank6_machineInv before rfl
  exact absurd offset0 (by decide)

end Sys2Proof.Machine

/-! # Memory: where addresses decode, and reading back what was written (20_memory.md)

`State.route_ok` says that decoding stays in its regions; what is left of R161 and R190 is that no table of the variants B,
C and D selects a peripheral of variant A. A read after a write goes through the target both decode to: a bus write moves
no address (`State.route_writeByte`), so it is enough to read the cell just written. -/

namespace Sys2Proof.Machine
open Sys2Proof.Safety

/-! ### The peripherals of variant A -/

/-- The regions that only variant A selects (R161, R190). -/
def variantAOnly : List Region := [.intlatch, .fdsel, .cass, .fdc]

theorem State.banked_notMem_variantAOnly (s : State) (a : Nat) : (s.banked a).region ∉ variantAOnly := by
  simp [State.banked, variantAOnly]

theorem State.videoTarget_notMem_variantAOnly (s : State) (d : Nat) : (s.videoTarget d).region ∉ variantAOnly := by
  simp [State.videoTarget, variantAOnly]

theorem Target.unmapped_notMem_variantAOnly : Target.unmapped.region ∉ variantAOnly := by decide

theorem kbdTarget_notMem_variantAOnly (d : Nat) (rw : Dir) : (kbdTarget d rw).region ∉ variantAOnly := by
  cases rw <;> simp [kbdTarget, Target.unmapped, variantAOnly]

theorem romTarget_notMem_variantAOnly (a : Nat) (rw : Dir) : (romTarget a rw).region ∉ variantAOnly := by
  cases rw <;> simp [romTarget, Target.unmapped, variantAOnly]

theorem State.lowBlock_notMem_variantAOnly (s : State) (a : Nat) (rw : Dir) :
    (s.lowBlock a rw).region ∉ variantAOnly := by
  unfold State.lowBlock
  split_ifs
  · decide
  · exact romTarget_notMem_variantAOnly a rw
  · exact s.videoTarget_notMem_variantAOnly _
  · exact kbdTarget_notMem_variantAOnly _ rw
  · exact Target.unmapped_notMem_variantAOnly

theorem State.routeB_notMem_variantAOnly (s : State) (a : Nat) (rw : Dir) :
    (s.routeB a rw).region ∉ variantAOnly := by
  unfold State.routeB
  split_ifs
  · simp [variantAOnly]
  · exact s.lowBlock_notMem_variantAOnly a rw

theorem State.routeMap0C_notMem_variantAOnly (s : State) (a : Nat) (rw : Dir) :
    (s.routeMap0C a rw).region ∉ variantAOnly := by
  unfold State.routeMap0C
  split_ifs
  · exact s.banked_notMem_variantAOnly a
  · exact s.lowBlock_notMem_variantAOnly a rw

theorem State.routeMap0D_notMem_variantAOnly (s : State) (romin : Bool) (a : Nat) (rw : Dir) :
    (s.routeMap0D romin a rw).region ∉ variantAOnly := by
  unfold State.routeMap0D
  split_ifs
  · exact s.banked_notMem_variantAOnly a
  · decide
  · simp [variantAOnly]
  · cases rw
    · exact s.banked_notMem_variantAOnly a
    · exact Target.unmapped_notMem_variantAOnly
  · exact s.videoTarget_notMem_variantAOnly _
  · exact kbdTarget_notMem_variantAOnly _ rw

theorem State.routeMap1_notMem_variantAOnly (s : State) (romin : Bool) (a : Nat) (rw : Dir) :
    (s.routeMap1 romin a rw).region ∉ variantAOnly := by
  unfold State.routeMap1
  split_ifs
  · simp [variantAOnly]
  · exact s.banked_notMem_variantAOnly a
  · exact s.videoTarget_notMem_variantAOnly _
  · exact kbdTarget_notMem_variantAOnly _ rw

theorem State.routeMap2_notMem_variantAOnly (s : State) (a : Nat) (rw : Dir) :
    (s.routeMap2 a rw).region ∉ variantAOnly := by
  unfold State.routeMap2
  split_ifs
  · exact s.banked_notMem_variantAOnly a
  · exact kbdTarget_notMem_variantAOnly _ rw
  · exact Target.unmapped_notMem_variantAOnly
  · simp [variantAOnly]

theorem State.routeC_notMem_variantAOnly (s : State) (map : BitVec 2) (a : Nat) (rw : Dir) :
    (s.routeC map a rw).region ∉ variantAOnly := by
  unfold State.routeC
  split
  · exact s.routeMap0C_notMem_variantAOnly a rw
  · exact s.routeMap1_notMem_variantAOnly false a rw
  · exact s.routeMap2_notMem_variantAOnly a rw
  · exact s.banked_notMem_variantAOnly a

theorem State.routeD_notMem_variantAOnly (s : State) (romin : Bool) (map : BitVec 2) (a : Nat) (rw : Dir) :
    (s.routeD romin map a rw).region ∉ variantAOnly := by
  unfold State.routeD
  split
  · exact s.routeMap0D_notMem_variantAOnly romin a rw
  · exact s.routeMap1_notMem_variantAOnly romin a rw
  · exact s.routeMap2_notMem_variantAOnly a rw
  · exact s.banked_notMem_variantAOnly a

/-- R161, R190: who selects one of these regions is variant A. -/
theorem State.model_of_route_mem_variantAOnly {s : State} {a : Nat} {rw : Dir}
    (h : (s.route a rw).region ∈ variantAOnly) : s.model = .a := by
  unfold State.route at h
  cases hm : s.model with
  | a => rfl
  | b => rw [State.mode_of_b hm] at h; exact absurd h (s.routeB_notMem_variantAOnly a rw)
  | c => rw [State.mode_of_c hm] at h; exact absurd h (s.routeC_notMem_variantAOnly _ a rw)
  | d => rw [State.mode_of_d hm] at h; exact absurd h (s.routeD_notMem_variantAOnly _ _ a rw)

/-- Settles O9: the range and the direction are `State.route_ok`, as an address has 16 bits. -/
theorem decodeSelectsInsideRegions : Obligations.DecodeSelectsInsideRegions := by
  unfold Obligations.DecodeSelectsInsideRegions
  intro s a rw
  obtain ⟨range, allowed⟩ := s.route_ok a.toNat rw a.isLt
  exact ⟨range, allowed, State.model_of_route_mem_variantAOnly⟩

/-! ### The bus operations as outcomes -/

theorem exec_memrd (a : Addr) (s : State) :
    exec (.memrd a) s = .next ((s.readByte a).2.reply (.byte (s.readByte a).1)) := rfl

theorem exec_memwr (a : Addr) (v : Byte) (s : State) :
    exec (.memwr a v) s = .next ((s.writeByte a v).reply .nothing) := rfl

theorem exec_wordrd (a : Addr) (s : State) :
    exec (.wordrd a) s = .next ((s.readWord a).2.reply (.word (s.readWord a).1)) := rfl

theorem exec_wordwr (a w : Addr) (s : State) :
    exec (.wordwr a w) s = .next ((s.writeWord a w).reply .nothing) := rfl

/-! ### A byte read back -/

/-- No byte write moves an address: decoding does not look at the storages (R63). -/
theorem State.route_writeByte (s : State) (a : Addr) (v : Byte) (b : Nat) (rw : Dir) :
    (s.writeByte a v).route b rw = s.route b rw :=
  (s.writeByte_frame a v).route b rw

/-- A RAM or video cell reads as just written, and the read changes nothing. -/
theorem State.readTarget_writeTarget_same (s : State) {cell : Target} (v : Byte)
    (h : cell.region = .ram ∨ cell.region = .video) :
    (s.writeTarget cell v).readTarget cell = (v, s.writeTarget cell v) := by
  obtain ⟨region, off⟩ := cell
  rcases h with rfl | rfl
  · have stored : (s.setRam off v).ramByte off = v := by rw [State.ramByte_setRam, if_pos rfl]
    exact Prod.ext stored rfl
  · have stored : (s.videoWrite off v).videoByte off = v := by rw [State.videoByte_videoWrite, if_pos rfl]
    exact Prod.ext stored rfl

/-- The same through two addresses that decode to one cell. -/
theorem State.readByte_writeByte_same {s : State} {a b : Addr} (v : Byte)
    (same : s.route b.toNat .rd = s.route a.toNat .wr)
    (h : (s.route a.toNat .wr).region = .ram ∨ (s.route a.toNat .wr).region = .video) :
    (s.writeByte a v).readByte b = (v, s.writeByte a v) := by
  unfold State.readByte
  rw [State.route_writeByte, same]
  exact s.readTarget_writeTarget_same v h

/-- Settles O22: the result of the write is dropped, then the cell reads as written. -/
theorem readReturnsLastWrite : Obligations.ReadReturnsLastWrite := by
  unfold Obligations.ReadReturnsLastWrite
  intro s a b v same cell
  refine ⟨_, exec_memwr a v s, ?_⟩
  rw [exec_memrd, State.readByte_reply, State.readByte_writeByte_same v same cell]
  rfl

/-! ### A word read back -/

theorem State.readByte_of_ram {s : State} {a : Addr} {o : Nat} (h : s.route a.toNat .rd = ⟨.ram, o⟩) :
    s.readByte a = (s.ramByte o, s) := by
  unfold State.readByte
  rw [h]; rfl

theorem State.writeByte_of_ram {s : State} {a : Addr} {o : Nat} (v : Byte) (h : s.route a.toNat .wr = ⟨.ram, o⟩) :
    s.writeByte a v = s.setRam o v := by
  unfold State.writeByte
  rw [h]; rfl

theorem State.readWord_of_ram {s : State} {a : Addr} {o p : Nat} (lo : s.route a.toNat .rd = ⟨.ram, o⟩)
    (hi : s.route (a + 1#16).toNat .rd = ⟨.ram, p⟩) : s.readWord a = (s.ramByte p ++ s.ramByte o, s) := by
  simp only [State.readWord, State.readByte_of_ram lo, State.readByte_of_ram hi]

theorem State.writeWord_of_ram {s : State} {a : Addr} {o p : Nat} (w : Addr) (lo : s.route a.toNat .wr = ⟨.ram, o⟩)
    (hi : s.route (a + 1#16).toNat .wr = ⟨.ram, p⟩) :
    s.writeWord a w = (s.setRam o (w.extractLsb' 0 8)).setRam p (w.extractLsb' 8 8) := by
  unfold State.writeWord
  rw [State.writeByte_of_ram _ lo, State.writeByte_of_ram _ ((s.route_setRam o _ _ .wr).trans hi)]

/-- A word is its high byte over its low byte (R65). -/
theorem highByte_append_lowByte (w : Addr) : w.extractLsb' 8 8 ++ w.extractLsb' 0 8 = w := by
  rw [BitVec.extractLsb'_append_extractLsb'_eq_extractLsb' (by decide)]
  exact BitVec.extractLsb'_eq_self

section wordCells
variable {s : State} {a : Addr} {o p : Nat} (lo : ∀ rw, s.route a.toNat rw = ⟨.ram, o⟩)
  (hi : ∀ rw, s.route (a + 1#16).toNat rw = ⟨.ram, p⟩) (distinct : o ≠ p)
include lo hi

theorem State.ramByte_writeWord_high (w : Addr) : (s.writeWord a w).ramByte p = w.extractLsb' 8 8 := by
  rw [State.writeWord_of_ram w (lo .wr) (hi .wr), State.ramByte_setRam, if_pos rfl]

include distinct

/-- The store of the high byte does not reach the low one. -/
theorem State.ramByte_writeWord_low (w : Addr) : (s.writeWord a w).ramByte o = w.extractLsb' 0 8 := by
  rw [State.writeWord_of_ram w (lo .wr) (hi .wr), State.ramByte_setRam, if_neg distinct.symm, State.ramByte_setRam,
    if_pos rfl]

theorem State.readWord_writeWord_same (w : Addr) : (s.writeWord a w).readWord a = (w, s.writeWord a w) := by
  have unmoved := (s.writeWord_frame a w).route
  rw [State.readWord_of_ram ((unmoved _ _).trans (lo .rd)) ((unmoved _ _).trans (hi .rd)),
    State.ramByte_writeWord_low lo hi distinct, State.ramByte_writeWord_high lo hi, highByte_append_lowByte]

end wordCells

/-- Reading a word does not look at the result of the operation before. -/
theorem State.readWord_reply (s : State) (x : Answer) (a : Addr) :
    (s.reply x).readWord a = ((s.readWord a).1, (s.readWord a).2.reply x) := by
  simp only [State.readWord, State.readByte_reply]

/-- Settles O24: WORDWR stores two bytes, the second does not reach the first, and WORDRD joins them again. -/
theorem wordWrittenReadsBack : Obligations.WordWrittenReadsBack := by
  unfold Obligations.WordWrittenReadsBack
  intro s a w o p lo hi distinct
  refine ⟨_, _, exec_wordwr a w s, State.ramByte_writeWord_low lo hi distinct w, State.ramByte_writeWord_high lo hi w,
    exec_wordrd a _, ?_⟩
  rw [State.readWord_reply, State.readWord_writeWord_same lo hi distinct]
  rfl

end Sys2Proof.Machine

/-! # The encoding: written forms, reserved words, what is refused (30_encoding.md)

The layer below says once what the decoder reads from each kind of word: `decode_transaction` gives the four fields, an
equation per `kind` and per format follows, then the same for the two command bytes. That decoding reads back the written
form is then one citation per row. -/

namespace Sys2Proof.Machine

/-! ### The dispatch on `kind` (R92) -/

theorem decodeKind_memrd (hi lo data : Byte) : decodeKind 0#4 hi lo data = .memrd (hi ++ lo) := rfl
theorem decodeKind_memwr (hi lo data : Byte) : decodeKind 1#4 hi lo data = .memwr (hi ++ lo) data := rfl
theorem decodeKind_iord (hi lo data : Byte) : decodeKind 2#4 hi lo data = decodeIord lo := rfl
theorem decodeKind_iowr (hi lo data : Byte) : decodeKind 3#4 hi lo data = decodeIowr lo data := rfl
theorem decodeKind_sideBand (hi lo data : Byte) : decodeKind 4#4 hi lo data = decodeSideBand hi lo data := rfl
theorem decodeKind_romld (hi lo data : Byte) : decodeKind 5#4 hi lo data = .romld (hi ++ lo) data := rfl
theorem decodeKind_viewrd (hi lo data : Byte) : decodeKind 6#4 hi lo data = .viewrd (hi ++ lo) := rfl
theorem decodeKind_viewwr (hi lo data : Byte) : decodeKind 7#4 hi lo data = .viewwr (hi ++ lo) := rfl

/-- A four-bit number from 8 on is none of the eight below; both the kinds (R92) and the controller's opcodes (R115) are
told apart by those. -/
theorem ne_lowNibbles_of_eight_le : ∀ k : BitVec 4, 8 ≤ k.toNat →
    k ≠ 0#4 ∧ k ≠ 1#4 ∧ k ≠ 2#4 ∧ k ≠ 3#4 ∧ k ≠ 4#4 ∧ k ≠ 5#4 ∧ k ≠ 6#4 ∧ k ≠ 7#4 := by
  decide

/-- Setting the top bit makes a four-bit number at least 8. -/
theorem eight_le_one_append : ∀ k : BitVec 3, 8 ≤ (1#1 ++ k : BitVec 4).toNat := by
  decide

/-- The kinds 8..15 are reserved (R92). -/
theorem decodeKind_reserved {kind : BitVec 4} (h : 8 ≤ kind.toNat) (hi lo data : Byte) :
    decodeKind kind hi lo data = .reservedKind (kind.extractLsb' 0 3 ++ hi ++ lo ++ data) := by
  simp only [decodeKind, ne_lowNibbles_of_eight_le kind h, if_false]

/-! ### The formats (R95 to R97) -/

theorem decode_transactionIord (p : Byte) : decode (transactionIord p) = .ok (decodeIord p) := by
  rw [transactionIord, decode_transaction, decodeKind_iord]

theorem decode_transactionIowr (p v : Byte) : decode (transactionIowr p v) = .ok (decodeIowr p v) := by
  rw [transactionIowr, decode_transaction, decodeKind_iowr]

theorem decode_transactionSb (number data : Byte) :
    decode (transactionSb number data) = .ok (decodeSideBand number 0#8 data) := by
  rw [transactionSb, decode_transaction, decodeKind_sideBand]

/-- A reserved number or a non-zero `addr[7:0]` is read as the reserved row (R94, R97). -/
theorem decodeSideBand_reserved {number zero : Byte} (h : reservedSideBand number zero = true) (data : Byte) :
    decodeSideBand number zero data = .reservedSb number zero data := by
  unfold decodeSideBand
  by_cases nonzero : zero ≠ 0#8
  · rw [if_pos nonzero]
  · have reserved : 9 ≤ number.toNat := by simpa [reservedSideBand, nonzero] using h
    have ne {k : Nat} (hk : k < 9) : number ≠ BitVec.ofNat 8 k := by
      rintro rfl
      rw [BitVec.toNat_ofNat] at reserved
      omega
    simp [nonzero, ne]

/-! The numbers whose operand is part of the data byte (R94, R98). -/

theorem decodeSideBand_setRomin (data : Byte) : decodeSideBand 2#8 0#8 data = .setRomin (data.getLsbD 0) := rfl
theorem decodeSideBand_mapSel (data : Byte) : decodeSideBand 3#8 0#8 data = .mapSel (data.extractLsb' 0 2) := rfl
theorem decodeSideBand_videoPage (data : Byte) : decodeSideBand 5#8 0#8 data = .videoPage (data.getLsbD 0) := rfl

/-- The one bit of SET_ROMIN and of VIDEO_PAGE is read back from the data byte it is written to (R94). -/
theorem getLsbD_zero_append_ofBool (b : Bool) : (0#7 ++ BitVec.ofBool b : Byte).getLsbD 0 = b := by
  cases b <;> rfl

/-- The rest of a reserved word is the rest of its `kind` and the other three fields. -/
theorem reservedKind_fields (rest : BitVec 27) :
    rest.extractLsb' 24 3 ++ rest.extractLsb' 16 8 ++ rest.extractLsb' 8 8 ++ rest.extractLsb' 0 8 = rest := by
  rw [BitVec.extractLsb'_append_extractLsb'_eq_extractLsb' (by decide),
    BitVec.extractLsb'_append_extractLsb'_eq_extractLsb' (by decide),
    BitVec.extractLsb'_append_extractLsb'_eq_extractLsb' (by decide)]
  exact BitVec.extractLsb'_eq_self

/-- A reserved word as a transaction word: its bit 27 is the top bit of `kind` (R91, R92). -/
theorem encode_reservedKind (rest : BitVec 27) :
    encode (.reservedKind rest)
      = transaction (1#1 ++ rest.extractLsb' 24 3) (rest.extractLsb' 16 8) (rest.extractLsb' 8 8)
          (rest.extractLsb' 0 8) := by
  have regroup (k : BitVec 3) (hi lo data : Byte) :
      (0#4 ++ 1#1 ++ (k ++ hi ++ lo ++ data) : BitVec 32) = 0#4 ++ (1#1 ++ k) ++ hi ++ lo ++ data := by
    simp only [BitVec.append_assoc, BitVec.cast_eq]
  rw [transaction, ← regroup, reservedKind_fields, encode]

theorem decode_encode_reservedKind (rest : BitVec 27) :
    decode (encode (.reservedKind rest)) = .ok (.reservedKind rest) := by
  rw [encode_reservedKind, decode_transaction, decodeKind_reserved (eight_le_one_append _),
    BitVec.extractLsb'_append_eq_right, reservedKind_fields]

/-! ### Command bytes (R102, R114, R115) -/

theorem decodeBankByte_of_notMem {c : Byte} (h : c ∉ legalBankBytes) : decodeBankByte c = .bankIllegal c := by
  simp only [legalBankBytes, List.mem_cons, List.not_mem_nil, or_false, not_or] at h
  simp only [decodeBankByte, h, if_false]

/-- The DMA flag and the low three bits are a command byte's low half (R114). -/
theorem lowNibble_fields (low : BitVec 4) : low.extractLsb' 3 1 ++ low.extractLsb' 0 3 = low := by
  rw [BitVec.extractLsb'_append_extractLsb'_eq_extractLsb' (by decide)]
  exact BitVec.extractLsb'_eq_self

/-- The byte with this opcode and DMA flag splits into them and its low three bits. -/
theorem decodeCommandByte_dma (opcode : BitVec 4) (dma : BitVec 1) (low : BitVec 3) :
    decodeCommandByte (opcode ++ dma ++ low) = decodeCommandFields opcode dma low := by
  have high : (opcode ++ dma ++ low : Byte).extractLsb' 4 4 = opcode := by
    rw [BitVec.extractLsb'_append_eq_of_le (by decide)]
    exact BitVec.extractLsb'_append_eq_left
  have flag : (opcode ++ dma ++ low : Byte).extractLsb' 3 1 = dma := by
    rw [BitVec.extractLsb'_append_eq_of_le (by decide)]
    exact BitVec.extractLsb'_append_eq_right
  have bits : (opcode ++ dma ++ low : Byte).extractLsb' 0 3 = low := BitVec.extractLsb'_append_eq_right
  rw [decodeCommandByte, high, flag, bits]

/-- A row whose opcode takes its four low bits whole is read back from them. -/
theorem decodeCommandByte_row {opcode : BitVec 4} {row : BitVec 4 → Instr}
    (h : ∀ dma low, decodeCommandFields opcode dma low = row (dma ++ low)) (low : BitVec 4) :
    decodeCommandByte (opcode ++ low) = row low := by
  have fields : (opcode ++ low : Byte) = opcode ++ low.extractLsb' 3 1 ++ low.extractLsb' 0 3 := by
    rw [BitVec.append_assoc, lowNibble_fields, BitVec.cast_eq]
  rw [fields, decodeCommandByte_dma, h, lowNibble_fields]

/-- The opcodes 8..15 are unknown (R115). -/
theorem decodeCommandFields_unknown8F {opcode : BitVec 4} (h : 8 ≤ opcode.toNat) (dma : BitVec 1) (low : BitVec 3) :
    decodeCommandFields opcode dma low = .unknown8F (opcode.extractLsb' 0 3 ++ dma ++ low) := by
  simp only [decodeCommandFields, ne_lowNibbles_of_eight_le opcode h, if_false]

theorem decodeCommandByte_unknown8F (low : BitVec 7) : decodeCommandByte (1#1 ++ low) = .unknown8F low := by
  have fields : low.extractLsb' 4 3 ++ low.extractLsb' 0 4 = low := by
    rw [BitVec.extractLsb'_append_extractLsb'_eq_extractLsb' (by decide)]
    exact BitVec.extractLsb'_eq_self
  have row (k : BitVec 3) (n : BitVec 4) : decodeCommandByte (1#1 ++ k ++ n) = .unknown8F (k ++ n) := by
    refine decodeCommandByte_row (row := fun n => .unknown8F (k ++ n)) (fun dma bits => ?_) n
    rw [decodeCommandFields_unknown8F (eight_le_one_append k), BitVec.extractLsb'_append_eq_right, BitVec.append_assoc,
      BitVec.cast_eq]
  have regroup := row (low.extractLsb' 4 3) (low.extractLsb' 0 4)
  rwa [BitVec.append_assoc, fields, BitVec.cast_eq] at regroup

/-! ### Every row is read back -/

/-- Settles O1: each row is read back by its format's equation; the premise keeps the generic port rows, the reserved
side-band row and the illegal banking row to the operands no other row takes. -/
theorem decodeReadsBackEncode : Obligations.DecodeReadsBackEncode := by
  unfold Obligations.DecodeReadsBackEncode
  intro i hw
  cases i with
  | memrd a => rw [encode, decode_transactionMem, decodeKind_memrd, addr_bytes]
  | memwr a v => rw [encode, decode_transactionMem, decodeKind_memwr, addr_bytes]
  | romld a v => rw [encode, decode_transactionMem, decodeKind_romld, addr_bytes]
  | viewrd a => rw [encode, decode_transactionMem, decodeKind_viewrd, addr_bytes]
  | viewwr a => rw [encode, decode_transactionMem, decodeKind_viewwr, addr_bytes]
  | iord p => exact (decode_transactionIord p).trans (congrArg _ (decodeIord_of_notMem (of_decide_eq_true hw)))
  | iowr p v => exact (decode_transactionIowr p v).trans (congrArg _ (decodeIowr_of_notMem v (of_decide_eq_true hw)))
  | iordExpansionA | iordExpansionCd | iordWp | iordControl | iordData | iordError | iordSeccnt | iordSecnum | iordCyllo
  | iordCylhi | iordSdh | iordStatus => exact decode_transactionIord _
  | iowrSelector v | iowrExpansionA v | iowrBankreg v | iowrExpansionCd v | iowrRomctl v | iowrWp v | iowrControl v
  | iowrData v | iowrPrecomp v | iowrSeccnt v | iowrSecnum v | iowrCyllo v | iowrCylhi v | iowrSdh v
  | iowrCommand v => exact decode_transactionIowr _ v
  | reset | expRd => exact decode_transactionSb _ 0#8
  | setModel data | bankCmd data | expWr data | selWr data => exact decode_transactionSb _ data
  | setRomin b => rw [encode, decode_transactionSb, decodeSideBand_setRomin, getLsbD_zero_append_ofBool]
  | videoPage w => rw [encode, decode_transactionSb, decodeSideBand_videoPage, getLsbD_zero_append_ofBool]
  | mapSel n => rw [encode, decode_transactionSb, decodeSideBand_mapSel, BitVec.extractLsb'_append_eq_right]
  | reservedKind rest => exact decode_encode_reservedKind rest
  | reservedSb number zero data =>
    exact (decode_transaction ..).trans (congrArg _ (decodeSideBand_reserved hw data))
  | bank0 | bank2 | bank3 | bank6 | bank7 => rfl
  | bankIllegal c => exact congrArg _ (decodeBankByte_of_notMem (of_decide_eq_true hw))
  | read low | readDma low | write low | writeDma low => exact congrArg _ (decodeCommandByte_dma _ _ low)
  | restore low | verify low | format low | init low | seek low | unknown0 low =>
    exact congrArg _ (decodeCommandByte_row (fun _ _ => rfl) low)
  | unknown8F low => exact congrArg _ (decodeCommandByte_unknown8F low)
  | wordrd a | wordwr a w | block dst src count dir => rfl

/-- Settles O3: a port word's dispatch does not use the high address byte. -/
theorem portUpperAddressByteIgnored : Obligations.PortUpperAddressByteIgnored := by
  unfold Obligations.PortUpperAddressByteIgnored
  intro kind hi hi' p d hk
  rcases hk with rfl | rfl
  · rw [decode_transaction, decode_transaction, decodeKind_iord, decodeKind_iord]
  · rw [decode_transaction, decode_transaction, decodeKind_iowr, decodeKind_iowr]

/-- Settles O2: each word and byte is the written form of its operation, but the STATUS read, whose word drives the
high address byte too. -/
theorem scriptWordsDecode : Obligations.ScriptWordsDecode := by
  unfold Obligations.ScriptWordsDecode
  have statusRead : decode (.word 0x02C1CF00#32) = .ok .iordStatus :=
    (portUpperAddressByteIgnored 2#4 0xC1#8 0#8 0xCF#8 0#8 (.inl rfl)).trans (decodeReadsBackEncode .iordStatus rfl)
  exact ⟨decodeReadsBackEncode (.memwr 0x9000#16 0x11#8) rfl, decodeReadsBackEncode (.iowrBankreg 0x20#8) rfl,
    decodeReadsBackEncode (.romld 0x37FF#16 0x00#8) rfl, decodeReadsBackEncode (.bankCmd 0x03#8) rfl, statusRead,
    decodeReadsBackEncode (.viewwr 0x3800#16) rfl, decodeReadsBackEncode (.writeDma 7#3) rfl,
    decodeReadsBackEncode .bank6 rfl⟩

/-! ### Reserved words (R92, R94, R97, R116) -/

theorem exec_reservedKind (rest : BitVec 27) (s : State) : exec (.reservedKind rest) s = .refused .reservedKind := rfl

theorem exec_reservedSb (number zero data : Byte) (s : State) :
    exec (.reservedSb number zero data) s = .refused .reservedSideBand := rfl

/-- Settles O4: both refusals hold in every state, and the decoder reads every reserved word as one of the two rows. -/
theorem reservedWordsAreRefused : Obligations.ReservedWordsAreRefused := by
  unfold Obligations.ReservedWordsAreRefused
  refine ⟨exec_reservedKind, exec_reservedSb, fun kind hi lo d h => ?_, fun hi lo d h => ?_⟩
  · rw [decode_transaction, decodeKind_reserved h]
    exact ⟨_, rfl⟩
  · have reserved : reservedSideBand hi lo = true := by
      rw [reservedSideBand, Bool.or_eq_true, decide_eq_true_eq, decide_eq_true_eq]
      exact h
    rw [decode_transaction, decodeKind_sideBand, decodeSideBand_reserved reserved]

/-! ### Which operations are refused (R116, R130) -/

/-- The outcome is a next state or a fault. -/
def NotRefused (o : Host.Outcome State Fault Refusal) : Prop := ∀ r, o ≠ .refused r

theorem NotRefused.next {t : State} : NotRefused (.next t) := by
  rintro _ ⟨⟩

theorem NotRefused.fault {f : Fault} : NotRefused (.fault f) := by
  rintro _ ⟨⟩

theorem State.onSelectedSlot_notRefused (s : State) (k : SlotId → State) : NotRefused (s.onSelectedSlot k) := by
  rcases s.onSelectedSlot_cases k with ⟨d, -, e⟩ | ⟨-, e⟩ <;> rw [e]
  · exact .next
  · exact .fault

/-- An unknown command byte is reported and not refused (R298). -/
theorem State.runCommand_notRefused (s : State) (v : Byte) : NotRefused (s.runCommand v) := by
  rw [State.runCommand_opcode]
  split_ifs
  · exact .next
  · exact .next
  · exact State.onSelectedSlot_notRefused _ _
  · exact State.onSelectedSlot_notRefused _ _
  · exact .next
  · exact .next
  · exact .next

theorem State.readData_notRefused (s : State) : NotRefused s.readData := by
  unfold State.readData
  split
  · split
    · exact .next
    · exact .fault
  · exact .next

theorem State.writeData_notRefused (s : State) (v : Byte) : NotRefused (s.writeData v) := by
  unfold State.writeData
  simp only
  split
  · exact State.onSelectedSlot_notRefused _ _
  · exact .next

/-- A port that is absent answers "not mine" (R231). -/
theorem State.portRead_notRefused (s : State) (p : Byte) : NotRefused (s.portRead p) := by
  rcases s.portRead_cases p with ⟨-, e⟩ | ⟨-, e⟩ | ⟨-, -, x, e⟩ <;> rw [e]
  · exact .next
  · exact s.readData_notRefused
  · exact .next

/-- A write of a port that is absent is ignored (R232). -/
theorem State.portWrite_notRefused (s : State) (p v : Byte) : NotRefused (s.portWrite p v) := by
  rcases s.portWrite_cases p v with ⟨-, e⟩ | ⟨-, e⟩ | ⟨-, -, t, e, -⟩ <;> rw [e]
  · exact s.writeData_notRefused v
  · exact s.runCommand_notRefused v
  · exact .next

/-- SET_MODEL is refused for a legal id whose variant the straps do not suit, and for nothing else (R130, R8). -/
theorem execSetModel_refused {m : Byte} {s : State} {r : Refusal} (h : execSetModel m s = .refused r) :
    ∃ k, modelOfId m = some k ∧ legalConfiguration k s.straps = false ∧ r = .illegalConfiguration := by
  unfold execSetModel at h
  split at h
  · cases h
  · rename_i k known
    split at h
    · cases h
    · rename_i unsuited
      cases h
      exact ⟨k, known, Bool.eq_false_iff.2 unsuited, rfl⟩

/-- The rows that can be refused: the reserved words and SET_MODEL. -/
def canBeRefused : Instr → Bool
  | .reservedKind _ | .reservedSb _ _ _ | .setModel _ => true
  | _ => false

/-- Every other operation, well-formed or not, gives a next state or a fault. -/
theorem exec_notRefused (i : Instr) (s : State) (h : canBeRefused i = false) : NotRefused (exec i s) := by
  cases i with
  | reservedKind rest | reservedSb number zero data | setModel m => cases h
  | iord p => exact s.portRead_notRefused p
  | iordExpansionA => exact s.portRead_notRefused 0x43#8
  | iordExpansionCd => exact s.portRead_notRefused 0x94#8
  | iowr p v => exact s.portWrite_notRefused p v
  | iowrSelector v => exact s.portWrite_notRefused 0x1F#8 v
  | iowrExpansionA v => exact s.portWrite_notRefused 0x43#8 v
  | iowrBankreg v => exact s.portWrite_notRefused 0x84#8 v
  | iowrExpansionCd v => exact s.portWrite_notRefused 0x94#8 v
  | iowrRomctl v => exact s.portWrite_notRefused 0x9C#8 v
  | iordData => exact s.readData_notRefused
  | iowrData v => exact s.writeData_notRefused v
  | iowrCommand v => exact s.runCommand_notRefused v
  | read low | write low | verify low | seek low => exact State.onSelectedSlot_notRefused _ _
  | _ => exact .next

/-- Settles O5: the reserved rows are refused by their own names, SET_MODEL by `execSetModel_refused`, and no other row
can be. -/
theorem onlyReservedWordsAndSetModelRefuse : Obligations.OnlyReservedWordsAndSetModelRefuse := by
  unfold Obligations.OnlyReservedWordsAndSetModelRefuse
  intro i s r h
  cases i with
  | reservedKind rest => cases h; exact .inl ⟨rest, rfl, rfl⟩
  | reservedSb number zero data => cases h; exact .inr (.inl ⟨number, zero, data, rfl, rfl⟩)
  | setModel m =>
    obtain ⟨k, known, unsuited, name⟩ := execSetModel_refused h
    exact .inr (.inr ⟨m, k, rfl, known, unsuited, name⟩)
  | _ => exact absurd h (exec_notRefused _ s rfl r)

/-! ### A step (R90, R73) -/

theorem State.fetch_of_pending {s : State} {r : Request} {rest : List Request} (h : s.pending = r :: rest) :
    s.fetch = some (r, { s with pending := rest }) := by
  unfold State.fetch; rw [h]

/-- Settles O6: the request is taken, then decoded, then run. -/
theorem stepRunsDecodedInstruction : Obligations.StepRunsDecodedInstruction := by
  unfold Obligations.StepRunsDecodedInstruction
  intro s r rest i legal issued decoded _
  unfold step
  rw [if_pos legal, State.fetch_of_pending issued]
  simp only [decoded]

end Sys2Proof.Machine

/-! # Mode selection and bank switching (40_bank_switch.md)

Each side-band operation is first written as the outcome of its shared operation, then each shared operation gets one
equation per case of its rule, and the bank table and the bases are read as natural numbers. The statements about results
cite those equations; the statements about physical windows put them together with what the all-RAM modes decode to. -/

namespace Sys2Proof.Machine

/-! ### The side-band operations as outcomes -/

theorem exec_setRomin (b : Bool) (s : State) : exec (.setRomin b) s = (s.setRominOp b).done := rfl
theorem exec_mapSel (n : BitVec 2) (s : State) : exec (.mapSel n) s = (s.mapSelect n).done := rfl
theorem exec_bankCmd (c : Byte) (s : State) : exec (.bankCmd c) s = (s.bankCommand c).done := rfl
theorem exec_bankIllegal (c : Byte) (s : State) : exec (.bankIllegal c) s = (s.bankCommand c).done := rfl
theorem exec_videoPage (w : Bool) (s : State) : exec (.videoPage w) s = (s.setVideoPage w).done := rfl
theorem exec_expWr (v : Byte) (s : State) : exec (.expWr v) s = (s.expansionWrite v).done := rfl
theorem exec_expRd (s : State) : exec .expRd s = s.answerByte s.expansionByte := rfl
theorem exec_selWr (v : Byte) (s : State) : exec (.selWr v) s = (s.selectorWrite v).done := rfl
theorem exec_romld (a : Addr) (v : Byte) (s : State) : exec (.romld a v) s = (s.loadRom a v).done := rfl

/-! ### SET_ROMIN, MAP_SEL, VIDEO_PAGE (R131, R132, R144) -/

theorem State.setRominOp_of_d {s : State} (b : Bool) (h : s.model = .d) :
    s.setRominOp b = s.setBank { s.bank with romin := b } := by
  simp only [State.setRominOp, h]

theorem State.setRominOp_of_ne_d {s : State} (b : Bool) (h : s.model ≠ .d) : s.setRominOp b = s := by
  unfold State.setRominOp
  split
  case h_1 hm => exact absurd hm h
  all_goals rfl

theorem State.mapSelect_of_cd {s : State} (n : BitVec 2) (h : s.model = .c ∨ s.model = .d) :
    s.mapSelect n = s.setBank { s.bank with mapSel := n } := by
  rcases h with h | h <;> simp only [State.mapSelect, h]

theorem State.mapSelect_of_ab {s : State} (n : BitVec 2) (h : s.model = .a ∨ s.model = .b) : s.mapSelect n = s := by
  rcases h with h | h <;> simp only [State.mapSelect, h]

theorem State.videoOffset_setVideoPage (s : State) (w : Bool) :
    (s.setVideoPage w).videoOffset = if w then 0x400 else 0x000 := by
  cases w <;> rfl

/-- Settles O31: each of the three operations by the variants that have it. -/
theorem modeSelectionResults : Obligations.ModeSelectionResults := by
  unfold Obligations.ModeSelectionResults
  intro s b n
  refine ⟨fun hm => ?_, fun hm => ?_, fun hm => ?_, fun hm => ?_, _, exec_videoPage b s, rfl, ?_⟩
  · rw [exec_setRomin, State.setRominOp_of_d b hm]; rfl
  · rw [exec_setRomin, State.setRominOp_of_ne_d b hm]; rfl
  · rw [exec_mapSel, State.mapSelect_of_cd n hm]; rfl
  · rw [exec_mapSel, State.mapSelect_of_ab n hm]; rfl
  · exact s.videoOffset_setVideoPage b

/-! ### BANK_CMD (R133 to R135) -/

theorem bankCommandOf_0 : bankCommandOf 0#8 = some .c0 := rfl
theorem bankCommandOf_2 : bankCommandOf 2#8 = some .c2 := rfl
theorem bankCommandOf_3 : bankCommandOf 3#8 = some .c3 := rfl
theorem bankCommandOf_6 : bankCommandOf 6#8 = some .c6 := rfl
theorem bankCommandOf_7 : bankCommandOf 7#8 = some .c7 := rfl

theorem bankCommandOf_of_notMem {c : Byte} (h : c ∉ legalBankBytes) : bankCommandOf c = none := by
  simp only [legalBankBytes, List.mem_cons, List.not_mem_nil, or_false, not_or] at h
  simp only [bankCommandOf, h, if_false]

theorem State.bankCommand_of_legal {c : Byte} {k : BankCommand} (s : State) (h : bankCommandOf c = some k) :
    s.bankCommand c = s.selectBank k := by
  simp only [State.bankCommand, h]

theorem State.bankCommand_of_illegal {c : Byte} (s : State) (h : c ∉ legalBankBytes) :
    s.bankCommand c = s.report .cfgBankCmd := by
  simp only [State.bankCommand, bankCommandOf_of_notMem h]

theorem exec_bankCmd_of_legal {c : Byte} {k : BankCommand} (s : State) (h : bankCommandOf c = some k) :
    exec (.bankCmd c) s = (s.selectBank k).done := by
  rw [exec_bankCmd, s.bankCommand_of_legal h]

/-- Settles O32: a legal byte selects its row of the table, and the row as a byte runs the same command; an illegal one is
reported. -/
theorem bankCommandTable : Obligations.BankCommandTable := by
  unfold Obligations.BankCommandTable
  intro s c
  have run0 := exec_bankCmd_of_legal s bankCommandOf_0
  have run2 := exec_bankCmd_of_legal s bankCommandOf_2
  have run3 := exec_bankCmd_of_legal s bankCommandOf_3
  have run6 := exec_bankCmd_of_legal s bankCommandOf_6
  have run7 := exec_bankCmd_of_legal s bankCommandOf_7
  refine ⟨⟨run0, run0⟩, ⟨run2, run2⟩, ⟨run3, run3⟩, ⟨run6, run6⟩, ⟨run7, run7⟩, fun illegal => ?_⟩
  rw [exec_bankCmd, exec_bankIllegal, s.bankCommand_of_illegal illegal]
  exact ⟨rfl, rfl⟩

/-! ### The bank table in natural numbers (R134) -/

/-- The table's offset of the lower half, as a natural number. -/
def bankOffsetNat0 (c : BankCommand) (base : Nat) : Nat :=
  match c with
  | .c6 => base
  | .c7 => 0x8000 + base
  | .c0 | .c2 | .c3 => 0

/-- The table's offset of the upper half, as a natural number. -/
def bankOffsetNat1 (c : BankCommand) (base : Nat) : Nat :=
  match c with
  | .c2 => 0x8000
  | .c3 => 0x8000 + base
  | .c0 | .c6 | .c7 => 0

/-- The one sum of the table, in range of every base that an operation writes (R22; log 13). -/
theorem toNat_half_add_base {base : BankWord} (h : base.toNat ≤ 0x1F0000) :
    (0x8000#21 + base).toNat = 0x8000 + base.toNat := by
  rw [BitVec.toNat_add, BitVec.toNat_ofNat]; omega

theorem bankTable0_toNat (c : BankCommand) {base : BankWord} (h : base.toNat ≤ 0x1F0000) :
    (bankTable0 c base).toNat = bankOffsetNat0 c base.toNat := by
  cases c with
  | c7 => exact toNat_half_add_base h
  | _ => rfl

theorem bankTable1_toNat (c : BankCommand) {base : BankWord} (h : base.toNat ≤ 0x1F0000) :
    (bankTable1 c base).toNat = bankOffsetNat1 c base.toNat := by
  cases c with
  | c3 => exact toNat_half_add_base h
  | _ => rfl

/-! ### EXP_WR and EXP_RD (R136 to R139) -/

theorem State.expansionWrite_of_huffman {s : State} (v : Byte) (h : s.straps.huffmanRam = true) :
    s.expansionWrite v = s.setBank
      { s.bank with
        bankBase := huffmanBase v, bankOffset0 := bankTable0 s.bank.lastCmd (huffmanBase v),
        bankOffset1 := bankTable1 s.bank.lastCmd (huffmanBase v) } := by
  unfold State.expansionWrite; rw [if_pos h]

theorem State.expansionWrite_of_supermem {s : State} (v : Byte) (hh : s.straps.huffmanRam = false)
    (hs : s.straps.supermem = true) : s.expansionWrite v = s.setBank { s.bank with bankBase := supermemBase v } := by
  unfold State.expansionWrite; rw [if_neg (Bool.eq_false_iff.1 hh), if_pos hs]

theorem State.expansionWrite_of_none {s : State} (v : Byte) (hh : s.straps.huffmanRam = false)
    (hs : s.straps.supermem = false) : s.expansionWrite v = s := by
  unfold State.expansionWrite; rw [if_neg (Bool.eq_false_iff.1 hh), if_neg (Bool.eq_false_iff.1 hs)]

/-- Settles O33: by the expansion fitted; the offsets that Huffman re-applies are the table's for the new base. -/
theorem expansionWriteResult : Obligations.ExpansionWriteResult := by
  unfold Obligations.ExpansionWriteResult
  intro s v
  refine ⟨fun hh => ⟨_, exec_expWr v s, ?_⟩, fun hh hs => ⟨_, exec_expWr v s, ?_⟩, fun hh hs => ?_⟩
  · rw [State.expansionWrite_of_huffman v hh]
    refine ⟨rfl, huffmanBase_toNat v, ?_, ?_⟩
    · rw [State.reply_bank, State.setBank_bank, bankTable0_toNat _ (huffmanBase_le v), huffmanBase_toNat]
      cases s.bank.lastCmd <;> rfl
    · rw [State.reply_bank, State.setBank_bank, bankTable1_toNat _ (huffmanBase_le v), huffmanBase_toNat]
      cases s.bank.lastCmd <;> rfl
  · rw [State.expansionWrite_of_supermem v hh hs]
    exact ⟨rfl, supermemBase_toNat v⟩
  · rw [exec_expWr, State.expansionWrite_of_none v hh hs]; rfl

theorem State.expansionByte_of_huffman {s : State} (h : s.straps.huffmanRam = true) :
    s.expansionByte.toNat = s.bank.bankBase.toNat / 0x10000 % 32 := by
  unfold State.expansionByte
  rw [if_pos h, BitVec.toNat_setWidth, BitVec.extractLsb'_toNat, Nat.shiftRight_eq_div_pow]
  omega

theorem State.expansionByte_of_supermem {s : State} (hh : s.straps.huffmanRam = false)
    (hs : s.straps.supermem = true) : s.expansionByte.toNat = s.bank.bankBase.toNat / 0x8000 % 16 := by
  unfold State.expansionByte
  rw [if_neg (Bool.eq_false_iff.1 hh), if_pos hs, BitVec.toNat_setWidth, BitVec.extractLsb'_toNat,
    Nat.shiftRight_eq_div_pow]
  omega

theorem State.expansionByte_of_none {s : State} (hh : s.straps.huffmanRam = false)
    (hs : s.straps.supermem = false) : s.expansionByte = 0xFF#8 := by
  unfold State.expansionByte; rw [if_neg (Bool.eq_false_iff.1 hh), if_neg (Bool.eq_false_iff.1 hs)]

theorem State.expansionByte_expansionWrite_huffman {s : State} (v : Byte) (h : s.straps.huffmanRam = true) :
    (s.expansionWrite v).expansionByte.toNat = v.toNat % 32 := by
  rw [State.expansionWrite_of_huffman v h, State.expansionByte_of_huffman (by exact h), State.setBank_bank,
    huffmanBase_toNat]
  omega

theorem State.expansionByte_expansionWrite_supermem {s : State} (v : Byte) (hh : s.straps.huffmanRam = false)
    (hs : s.straps.supermem = true) : (s.expansionWrite v).expansionByte.toNat = v.toNat % 16 := by
  rw [State.expansionWrite_of_supermem v hh hs, State.expansionByte_of_supermem (by exact hh) (by exact hs),
    State.setBank_bank, supermemBase_toNat]
  omega

/-- Settles O34: what EXP_RD answers, and the same after EXP_WR. -/
theorem expansionReadsBack : Obligations.ExpansionReadsBack := by
  unfold Obligations.ExpansionReadsBack
  refine ⟨fun s => ⟨_, exec_expRd s, ?_, ?_, ?_⟩, fun s v => ⟨_, _, exec_expWr v s, exec_expRd _, ?_, ?_⟩⟩
  · exact State.expansionByte_of_huffman
  · exact State.expansionByte_of_supermem
  · exact State.expansionByte_of_none
  · exact State.expansionByte_expansionWrite_huffman v
  · exact State.expansionByte_expansionWrite_supermem v

/-! ### SEL_WR (R141) -/

theorem State.hasSelector_iff (s : State) :
    s.hasSelector = true ↔ s.model = .a ∧ s.straps.selectorEnabled = true := by
  simp only [State.hasSelector, Bool.and_eq_true, decide_eq_true_eq]

theorem State.hasSelector_eq_false {s : State} (h : s.model ≠ .a ∨ s.straps.selectorEnabled = false) :
    s.hasSelector = false := by
  rw [Bool.eq_false_iff, Ne, State.hasSelector_iff, not_and_or, Bool.not_eq_true]
  exact h

theorem State.selectorWrite_of_card {s : State} (v : Byte) (h : s.hasSelector = true) :
    s.selectorWrite v = s.setBank { s.bank with selectorReg := v, bankBase := selectorBase v } := by
  unfold State.selectorWrite; rw [if_pos h]

theorem State.selectorWrite_of_noCard {s : State} (v : Byte) (h : s.hasSelector = false) : s.selectorWrite v = s := by
  unfold State.selectorWrite; rw [if_neg (Bool.eq_false_iff.1 h)]

/-- The formula of R141 in natural numbers; its largest value is 0x28000, so nothing wraps. -/
theorem selectorBase_toNat (v : Byte) :
    (selectorBase v).toNat =
      if v.getLsbD 3 then 0x8000 + (v.extractLsb' 4 2).toNat * 0x8000 + (if v.getLsbD 0 then 0x8000 else 0) else 0 := by
  revert v; decide

/-- Settles O35: with the card the register and the base are written and the sub-mode is read off the register. -/
theorem selectorWriteResult : Obligations.SelectorWriteResult := by
  unfold Obligations.SelectorWriteResult
  intro s v
  refine ⟨fun hm card => ⟨_, exec_selWr v s, ?_⟩, fun absent => ?_⟩
  · rw [State.selectorWrite_of_card v (s.hasSelector_iff.2 ⟨hm, card⟩)]
    refine ⟨rfl, selectorBase_toNat v, ?_⟩
    rw [State.mode_of_a (by exact hm), if_pos (by exact card), ModeCode.code_a]
    rfl
  · rw [exec_selWr, State.selectorWrite_of_noCard v (State.hasSelector_eq_false absent)]; rfl

/-! ### Physical windows (R140, R143) -/

/-- Map 3 of variants C and D is RAM throughout (R197). -/
theorem State.route_of_map3 {s : State} (hm : s.model = .c ∨ s.model = .d) (map : s.bank.mapSel = 3#2) (a : Nat)
    (rw : Dir) : s.route a rw = s.banked a := by
  unfold State.route
  rcases hm with hm | hm
  · rw [State.mode_of_c hm, map]; rfl
  · rw [State.mode_of_d hm, map]; rfl

/-- `BANKED(a)` after a banking command: the offset of the half that `a` lies in (R191, R134). -/
theorem State.banked_selectBank {s : State} (k : BankCommand) (base : s.bank.bankBase.toNat ≤ 0x1F0000) (a : Nat) :
    (s.selectBank k).banked a =
      ⟨.ram, a + if a < 0x8000 then bankOffsetNat0 k s.bank.bankBase.toNat
        else bankOffsetNat1 k s.bank.bankBase.toNat⟩ := by
  rw [← bankTable0_toNat k base, ← bankTable1_toNat k base]
  unfold State.banked upperHalf
  by_cases h : a < 0x8000
  · rw [if_pos h, decide_eq_false (by omega)]; rfl
  · rw [if_neg h, decide_eq_true (by omega)]; rfl

/-- BANK_CMD of a legal byte, and what each address of the all-RAM map decodes to afterwards. -/
theorem exec_bankCmd_window {s : State} {c : Byte} {k : BankCommand} (hc : bankCommandOf c = some k)
    (hm : s.model = .c ∨ s.model = .d) (map : s.bank.mapSel = 3#2) (base : s.bank.bankBase.toNat ≤ 0x1F0000) :
    exec (.bankCmd c) s = .next ((s.selectBank k).reply .nothing) ∧ ∀ (a : Nat) (rw : Dir),
      ((s.selectBank k).reply .nothing).route a rw =
        ⟨.ram, a + if a < 0x8000 then bankOffsetNat0 k s.bank.bankBase.toNat
          else bankOffsetNat1 k s.bank.bankBase.toNat⟩ := by
  refine ⟨exec_bankCmd_of_legal s hc, fun a rw => ?_⟩
  rw [State.route_reply, State.route_of_map3 (by exact hm) (by exact map), State.banked_selectBank k base]

/-- R140's table of windows is R134's table of offsets, read from the legal byte and an address. -/
theorem legalByte_windows {c : Byte} (hc : c = 0#8 ∨ c = 2#8 ∨ c = 3#8 ∨ c = 6#8 ∨ c = 7#8) (base : Nat) :
    ∃ k, bankCommandOf c = some k ∧ ∀ a : Nat,
      (⟨.ram, a + if a < 0x8000 then bankOffsetNat0 k base else bankOffsetNat1 k base⟩ : Target) =
        if a < 0x8000 then
          (if c = 6#8 then ⟨.ram, base + a⟩ else if c = 7#8 then ⟨.ram, base + 0x8000 + a⟩ else ⟨.ram, a⟩)
        else
          (if c = 2#8 then ⟨.ram, 0x10000 + (a - 0x8000)⟩
           else if c = 3#8 then ⟨.ram, base + 0x10000 + (a - 0x8000)⟩ else ⟨.ram, a⟩) := by
  rcases hc with rfl | rfl | rfl | rfl | rfl
  all_goals
    refine ⟨_, rfl, fun a => ?_⟩
    by_cases h : a < 0x8000 <;> simp [h, bankOffsetNat0, bankOffsetNat1] <;> omega

/-- Settles O15: the window of each legal byte, half by half. -/
theorem bankCommandWindows : Obligations.BankCommandWindows := by
  unfold Obligations.BankCommandWindows
  intro s c hm map base hc
  obtain ⟨k, hk, table⟩ := legalByte_windows hc s.bank.bankBase.toNat
  obtain ⟨run, window⟩ := exec_bankCmd_window hk hm map base
  refine ⟨_, run, fun a rw _ => ?_⟩
  rw [window a rw, table a]

/-- Sub-modes 4 and 5 of variant A are RAM throughout (R169, R170). -/
theorem State.route_of_sub4or5 {s : State} {sub : BitVec 3} (hm : s.mode = .a sub) (h : sub = 4#3 ∨ sub = 5#3) (a : Nat)
    (rw : Dir) : s.route a rw = s.aram a a := by
  unfold State.route
  rw [hm]
  rcases h with rfl | rfl <;> rfl

/-- `ARAM(a, a)` with the selector card: bit 0 of its register names the half that the base moves (R162). -/
theorem State.aram_of_card {s : State} (card : s.straps.selectorEnabled = true) (a : Nat) :
    s.aram a a =
      ⟨.ram, a + if s.bank.selectorReg.getLsbD 0 = true ↔ a < 0x8000 then s.bank.bankBase.toNat else 0⟩ := by
  simp only [State.aram, State.adjusts, State.inActiveHalf, upperHalf, card, Bool.true_or, Bool.true_and]
  cases s.bank.selectorReg.getLsbD 0 <;> by_cases h : a < 0x8000 <;> simp [h]

/-- Settles O16: without bit 3 the base is 0; with it the base is added in the half that bit 0 names. -/
theorem selectorBankWindows : Obligations.SelectorBankWindows := by
  unfold Obligations.SelectorBankWindows
  intro s v hm card sub
  refine ⟨_, exec_selWr v s, fun a rw _ => ?_⟩
  rw [State.selectorWrite_of_card v (s.hasSelector_iff.2 ⟨hm, card⟩), State.route_reply,
    State.route_of_sub4or5 ((State.mode_of_a (by exact hm)).trans (by rw [if_pos (by exact card)]; rfl)) sub,
    State.aram_of_card (by exact card)]
  simp only [State.setBank_bank, selectorBase_toNat]
  cases v.getLsbD 3
  case false => simp
  case true =>
    rcases Nat.lt_or_ge a 0x8000 with lower | upper
    · cases v.getLsbD 0
      · simp [lower, Nat.not_le.2 lower]
      · simp [lower]; omega
    · cases v.getLsbD 0
      · simp [upper, Nat.not_lt.2 upper]; omega
      · simp [Nat.not_lt.2 upper]

/-! ### SET_MODEL (R130) -/

theorem exec_setModel_of_unknown {m : Byte} (s : State) (h : modelOfId m = none) :
    exec (.setModel m) s = (s.report .cfgModel).done := by
  simp only [exec, execSetModel, h]

theorem exec_setModel_of_known {m : Byte} {k : Model} (s : State) (h : modelOfId m = some k) :
    exec (.setModel m) s =
      if legalConfiguration k s.straps then (s.changeModel k).done else .refused .illegalConfiguration := by
  simp only [exec, execSetModel, h]

theorem modelOfId_of_notMem {m : Byte} (h : m ∉ [1#8, 3#8, 4#8, 5#8]) : modelOfId m = none := by
  simp only [List.mem_cons, List.not_mem_nil, or_false, not_or] at h
  simp only [modelOfId, h, if_false]

theorem modelOfId_of_mem {m : Byte} {k : Model} (h : (m, k) ∈ [(1#8, Model.a), (3#8, .b), (4#8, .c), (5#8, .d)]) :
    modelOfId m = some k := by
  simp only [List.mem_cons, Prod.mk.injEq, List.not_mem_nil, or_false] at h
  rcases h with ⟨rfl, rfl⟩ | ⟨rfl, rfl⟩ | ⟨rfl, rfl⟩ | ⟨rfl, rfl⟩ <;> rfl

/-- R8 read expansion by expansion. -/
theorem legalConfiguration_iff (k : Model) (x : Straps) :
    legalConfiguration k x = true ↔
      (x.huffmanRam = true → (k = .c ∨ k = .d) ∧ x.supermem = false ∧ x.selectorEnabled = false)
        ∧ (x.supermem = true → k = .a ∧ x.selectorEnabled = false)
        ∧ (x.selectorEnabled = true → k = .a)
        ∧ 1 ≤ x.sectorsPerTrack ∧ x.sectorsPerTrack ≤ 255 := by
  unfold legalConfiguration
  cases x.huffmanRam <;> cases x.supermem <;> cases x.selectorEnabled <;> simp [and_assoc]

/-- Settles O30: an unknown id, then a known one by whether the straps suit it. -/
theorem setModelResult : Obligations.SetModelResult := by
  unfold Obligations.SetModelResult
  intro s m
  refine ⟨fun unknown => ?_, fun k known => ?_⟩
  · rw [exec_setModel_of_unknown s (modelOfId_of_notMem unknown)]; rfl
  · simp only [← legalConfiguration_iff, exec_setModel_of_known s (modelOfId_of_mem known)]
    refine ⟨fun unsuited => if_neg unsuited, fun legal => ?_⟩
    rw [if_pos legal]; rfl

/-! ### ROMLD (R145) -/

/-- Below `ROM_MAX` the byte is stored, and nothing but the ROM and its size moves. -/
theorem State.loadRom_of_lt (s : State) {a : Addr} (v : Byte) (h : a.toNat < Config.romMax) :
    ∃ size : Fin (Config.romMax + 1), size.val = max s.romSize.val (a.toNat + 1)
      ∧ s.loadRom a v = { s with rom := s.rom.store a.toNat v, romSize := size } := by
  unfold State.loadRom
  rw [dif_pos h]
  exact ⟨_, rfl, rfl⟩

theorem State.loadRom_of_ge (s : State) {a : Addr} (v : Byte) (h : Config.romMax ≤ a.toNat) :
    s.loadRom a v = s.report .cfgRomRange := by
  unfold State.loadRom; rw [dif_neg (Nat.not_lt.2 h)]

/-- A ROM byte reads as last loaded, and every other one as before. -/
theorem State.romByte_of_rom_store {s t : State} {a : Nat} {v : Byte} (h : t.rom = s.rom.store a v) (o : Nat) :
    t.romByte o = if o = a then v else s.romByte o := by
  simp only [State.romByte, h, Memory.lookup_store, eq_comm (a := o)]
  split <;> rfl

/-- Settles O36: by whether the index is below `ROM_MAX`. -/
theorem romLoadResult : Obligations.RomLoadResult := by
  unfold Obligations.RomLoadResult
  intro s a v
  refine ⟨fun inRom => ?_, fun past => ?_⟩
  · obtain ⟨size, hsize, loaded⟩ := s.loadRom_of_lt v inRom
    refine ⟨_, exec_romld a v s, ?_⟩
    rw [loaded]
    exact ⟨rfl, hsize, State.romByte_of_rom_store rfl⟩
  · rw [exec_romld, s.loadRom_of_ge v past]; rfl

/-! ### The MEMDEC ports (R146, R104)

One equation per port: what it is in the configurations that have it, and nothing of this hardware's elsewhere. -/

section memdecPorts
variable (s : State) (v : Byte)

theorem State.portWrite_selector :
    s.portWrite 0x1F#8 v = if s.hasSelector = true then (s.selectorWrite v).done else s.done := by
  simp [State.portWrite]

theorem State.portWrite_expansionA :
    s.portWrite 0x43#8 v = if s.model = .a then (s.expansionWrite v).done else s.done := by
  simp [State.portWrite]

theorem State.portWrite_bankreg :
    s.portWrite 0x84#8 v = if s.model = .c ∨ s.model = .d then (s.bankregWrite v).done else s.done := by
  simp [State.portWrite]

theorem State.portWrite_expansionCd :
    s.portWrite 0x94#8 v = if s.model = .c ∨ s.model = .d then (s.expansionWrite v).done else s.done := by
  simp [State.portWrite]

theorem State.portWrite_romctl :
    s.portWrite 0x9C#8 v = if s.model = .d then (s.setRominOp (romctlRomin v)).done else s.done := by
  simp [State.portWrite]

theorem State.portRead_expansionA :
    s.portRead 0x43#8 = if s.model = .a then s.answerByte s.expansionByte else .next (s.reply .notMine) := by
  simp [State.portRead]

theorem State.portRead_expansionCd :
    s.portRead 0x94#8 =
      if s.model = .c ∨ s.model = .d then s.answerByte s.expansionByte else .next (s.reply .notMine) := by
  simp [State.portRead]

/-! The result of an operation is dropped by the next one: no banking operation reads it. -/

theorem State.bankCommand_reply (c : Byte) (x : Answer) : (s.reply x).bankCommand c = (s.bankCommand c).reply x := by
  unfold State.bankCommand; split <;> rfl

theorem State.mapSelect_reply (n : BitVec 2) (x : Answer) : (s.reply x).mapSelect n = (s.mapSelect n).reply x := by
  unfold State.mapSelect; rw [State.reply_model]; split <;> rfl

/-- The BANKREG composite is VIDEO_PAGE, BANK_CMD and MAP_SEL run one after the other (R100, R146). -/
theorem State.bankregWrite_eq_execs :
    ∃ t u, exec (.videoPage (bankregPage v)) s = .next t ∧ exec (.bankCmd (bankregCommand v)) t = .next u
      ∧ exec (.mapSel (bankregMap v)) u = (s.bankregWrite v).done := by
  refine ⟨_, _, exec_videoPage _ s, exec_bankCmd _ _, ?_⟩
  rw [exec_mapSel, State.bankCommand_reply, State.reply_reply, State.mapSelect_reply]
  rfl

end memdecPorts

/-- Settles O39: each port by its equation, in the configurations that have it and elsewhere. -/
theorem memdecPortCycles : Obligations.MemdecPortCycles := by
  unfold Obligations.MemdecPortCycles
  intro s v
  refine ⟨fun cd => ?_, fun notCd => ?_, fun d => ?_, fun notD => ?_, fun cd => ?_, fun notCd => ?_, fun a => ?_,
    fun notA => ?_, fun a card => ?_, fun absent => ?_⟩
  · obtain ⟨t, u, page, command, map⟩ := s.bankregWrite_eq_execs v
    exact ⟨t, u, _, page, command, map, (s.portWrite_bankreg v).trans (if_pos cd)⟩
  · exact (s.portWrite_bankreg v).trans (if_neg notCd)
  · exact ⟨_, exec_setRomin _ s, (s.portWrite_romctl v).trans (if_pos d)⟩
  · exact (s.portWrite_romctl v).trans (if_neg notD)
  · exact ⟨_, _, exec_expWr v s, (s.portWrite_expansionCd v).trans (if_pos cd), exec_expRd s,
      s.portRead_expansionCd.trans (if_pos cd)⟩
  · exact ⟨(s.portWrite_expansionCd v).trans (if_neg notCd), s.portRead_expansionCd.trans (if_neg notCd)⟩
  · exact ⟨_, _, exec_expWr v s, (s.portWrite_expansionA v).trans (if_pos a), exec_expRd s,
      s.portRead_expansionA.trans (if_pos a)⟩
  · exact ⟨(s.portWrite_expansionA v).trans (if_neg notA), s.portRead_expansionA.trans (if_neg notA)⟩
  · exact ⟨_, exec_selWr v s, (s.portWrite_selector v).trans (if_pos (s.hasSelector_iff.2 ⟨a, card⟩))⟩
  · exact (s.portWrite_selector v).trans (if_neg (Bool.eq_false_iff.1 (State.hasSelector_eq_false absent)))

end Sys2Proof.Machine

/-! # Address decoding of variant A (41_decode_variant_a.md)

Every sub-mode's table is built from three parts: the 16 KiB block of R163 and R164, RAM with the base added in the banked
half (R162), and the mirrored zone of sub-mode 6 (R171). First each part is said range by range, then each sub-mode is written
as its choice between the parts (`State.routeA_sub0` to `State.routeA_sub7`), and the places where a part shows are
gathered over the sub-modes (`ShowsBlock`, `ShowsRam`). -/

namespace Sys2Proof.Machine

/-! ### The block of R163 and R164, by ranges of the address inside it -/

section block
variable (s : State) (romvis : Bool) {m : Nat}

theorem State.romSize_le : s.romSize.val ≤ 0x3800 := Nat.le_of_lt_succ s.romSize.isLt

theorem State.ammio_video (rw : Dir) (h : 0x3C00 ≤ m) :
    s.ammio m romvis rw = ⟨.video, (m - 0x3C00) + s.videoOffset⟩ := by
  cases rw <;> exact if_pos h

/-- A loaded ROM ends below the keyboard zone, so it never hides it (R23). -/
theorem State.ammioRd_kbd (from3800 : 0x3800 ≤ m) (to3C00 : m < 0x3C00) :
    s.ammioRd m romvis = ⟨.kbd, m - 0x3800⟩ := by
  have := s.romSize_le
  unfold State.ammioRd
  rw [if_neg (by omega), if_neg (by omega), if_neg (by omega), if_neg (by omega), if_neg (by omega), if_pos from3800]

theorem State.ammio_printer (rw : Dir) : s.ammio 0x37E8 romvis rw = ⟨.printer, 0⟩ := by
  cases rw <;> rfl

theorem State.ammioRd_intlatch (h : 0x37E0 ≤ m ∧ m ≤ 0x37E3) : s.ammioRd m romvis = ⟨.intlatch, m - 0x37E0⟩ := by
  unfold State.ammioRd
  rw [if_neg (by omega), if_neg (by omega), if_pos h, show m % 4 = m - 0x37E0 by omega]

theorem State.ammioWr_fdsel (h : 0x37E0 ≤ m ∧ m ≤ 0x37E3) : s.ammioWr m = ⟨.fdsel, m - 0x37E0⟩ := by
  unfold State.ammioWr
  rw [if_neg (by omega), if_neg (by omega), if_pos h, show m % 4 = m - 0x37E0 by omega]

theorem State.ammioWr_cass : s.ammioWr 0x37E4 = ⟨.cass, 0⟩ := rfl

theorem State.ammio_fdc (rw : Dir) (h : 0x37EC ≤ m ∧ m ≤ 0x37EF) :
    s.ammio m romvis rw = ⟨.fdc, m - 0x37EC⟩ := by
  have offset : m % 4 = m - 0x37EC := by omega
  cases rw
  case rd =>
    show s.ammioRd m romvis = _
    unfold State.ammioRd
    rw [if_neg (by omega), if_neg (by omega), if_neg (by omega), if_pos h, offset]
  case wr =>
    show s.ammioWr m = _
    unfold State.ammioWr
    rw [if_neg (by omega), if_neg (by omega), if_neg (by omega), if_neg (by omega), if_pos h, offset]

/-- Below the video zone a write reaches the peripherals only (R164). -/
theorem State.ammioWr_unmapped (below : m < 0x3C00) (printer : m ≠ 0x37E8) (fdsel : ¬(0x37E0 ≤ m ∧ m ≤ 0x37E3))
    (cass : m ≠ 0x37E4) (fdc : ¬(0x37EC ≤ m ∧ m ≤ 0x37EF)) : s.ammioWr m = ⟨.none, 0⟩ := by
  unfold State.ammioWr
  rw [if_neg (by omega), if_neg printer, if_neg fdsel, if_neg cass, if_neg fdc]
  rfl

/-- Below the keyboard zone a read reaches the ROM where it is visible, and the peripherals (R163). -/
theorem State.ammioRd_rom (below : m < 0x3800) (printer : m ≠ 0x37E8) (intlatch : ¬(0x37E0 ≤ m ∧ m ≤ 0x37E3))
    (fdc : ¬(0x37EC ≤ m ∧ m ≤ 0x37EF)) :
    s.ammioRd m romvis = if romvis = true ∧ m < s.romSize.val then ⟨.rom, m⟩ else ⟨.none, 0⟩ := by
  unfold State.ammioRd
  rw [if_neg (by omega), if_neg printer, if_neg intlatch, if_neg fdc, if_neg (Nat.not_le.2 below)]
  rfl

end block

/-! ### RAM with the banked half (R162) -/

/-- What R162 adds to a RAM offset of variant A: the base, where an adjustment is fitted and `a` is in the active half. -/
def State.aramExtra (s : State) (a : Nat) : Nat :=
  if (s.straps.selectorEnabled = true ∨ s.straps.supermem = true) ∧ (a < 0x8000 ↔ s.bank.selectorReg.getLsbD 0 = true)
  then s.bank.bankBase.toNat else 0

theorem State.adjusts_iff (s : State) :
    s.adjusts = true ↔ s.straps.selectorEnabled = true ∨ s.straps.supermem = true :=
  Bool.or_eq_true_iff

theorem State.inActiveHalf_iff (s : State) (a : Nat) :
    s.inActiveHalf a = true ↔ (a < 0x8000 ↔ s.bank.selectorReg.getLsbD 0 = true) := by
  unfold State.inActiveHalf upperHalf
  cases s.bank.selectorReg.getLsbD 0 <;> simp

theorem State.aram_eq (s : State) (a o : Nat) : s.aram a o = ⟨.ram, o + s.aramExtra a⟩ := by
  unfold State.aram State.aramExtra
  simp only [Bool.and_eq_true, State.adjusts_iff, State.inActiveHalf_iff]
  split <;> rfl

/-- The mirrored zone of sub-mode 6 (R171): what stays below 0x4000 after the adjustment is unmapped. -/
theorem State.mirror_eq (s : State) {a : Nat} (fromC000 : 0xC000 ≤ a) (lt : a < 0x10000) :
    s.mirror a =
      if a - 0xC000 + s.aramExtra a < 0x4000 then ⟨.none, 0⟩ else ⟨.ram, a - 0xC000 + s.aramExtra a⟩ := by
  unfold State.mirror
  rw [State.aram_eq, show a % 0x4000 = a - 0xC000 by omega]
  rfl

/-! ### The sub-modes (R165 to R172) -/

theorem State.route_of_a {s : State} {sub : BitVec 3} (hm : s.mode = .a sub) (a : Nat) (rw : Dir) :
    s.route a rw = s.routeA sub a rw := by
  unfold State.route; rw [hm]

section subModes
variable (s : State) (a : Nat) (rw : Dir)

theorem State.routeA_sub0 : s.routeA 0#3 a rw = if a < 0x4000 then s.ammio a true rw else s.aram a a := rfl

theorem State.routeA_sub1 :
    s.routeA 1#3 a rw = if 0xF7E0 ≤ a ∧ a ≤ 0xF7FF then s.ammio (a % 0x4000) false rw else s.aram a a := rfl

theorem State.routeA_sub2 :
    s.routeA 2#3 a rw = if 0x37E0 ≤ a ∧ a ≤ 0x3FFF then s.ammio a false rw else s.aram a a := rfl

theorem State.routeA_sub3 :
    s.routeA 3#3 a rw = if 0xF7E0 ≤ a then s.ammio (a % 0x4000) false rw else s.aram a a := rfl

theorem State.routeA_sub4 : s.routeA 4#3 a rw = s.aram a a := rfl

theorem State.routeA_sub5 : s.routeA 5#3 a rw = s.aram a a := rfl

theorem State.routeA_sub6 :
    s.routeA 6#3 a rw =
      if a < 0x4000 then s.ammio a true rw else if a < 0xC000 then s.aram a a else s.mirror a := rfl

theorem State.routeA_sub7 : s.routeA 7#3 a rw = ⟨.none, 0⟩ := rfl

end subModes

/-- Where a sub-mode shows the block: whole in 0 and 6, its upper part in 2, moved to the top in 1 and 3. -/
def ShowsBlock (sub : BitVec 3) (a : Nat) : Prop :=
  ((sub = 0#3 ∨ sub = 6#3) ∧ a < 0x4000) ∨ (sub = 1#3 ∧ 0xF7E0 ≤ a ∧ a ≤ 0xF7FF)
    ∨ (sub = 2#3 ∧ 0x37E0 ≤ a ∧ a < 0x4000) ∨ (sub = 3#3 ∧ 0xF7E0 ≤ a)

/-- Where a sub-mode shows RAM, the mirrored zone of sub-mode 6 apart. -/
def ShowsRam (sub : BitVec 3) (a : Nat) : Prop :=
  (sub = 0#3 ∧ 0x4000 ≤ a) ∨ (sub = 1#3 ∧ (a < 0xF7E0 ∨ 0xF800 ≤ a)) ∨ (sub = 2#3 ∧ (a < 0x37E0 ∨ 0x4000 ≤ a))
    ∨ (sub = 3#3 ∧ a < 0xF7E0) ∨ sub = 4#3 ∨ sub = 5#3 ∨ (sub = 6#3 ∧ 0x4000 ≤ a ∧ a < 0xC000)

/-- The ROM is visible in the sub-modes 0 and 6 only. -/
theorem State.routeA_of_showsBlock (s : State) {sub : BitVec 3} {a : Nat} (rw : Dir) (h : ShowsBlock sub a) :
    s.routeA sub a rw = s.ammio (a % 0x4000) (decide (sub = 0#3 ∨ sub = 6#3)) rw := by
  rcases h with ⟨rfl | rfl, h⟩ | ⟨rfl, h⟩ | ⟨rfl, h⟩ | ⟨rfl, h⟩
  · rw [State.routeA_sub0, if_pos h, Nat.mod_eq_of_lt h]; rfl
  · rw [State.routeA_sub6, if_pos h, Nat.mod_eq_of_lt h]; rfl
  · rw [State.routeA_sub1, if_pos h]; rfl
  · rw [State.routeA_sub2, if_pos (by omega), Nat.mod_eq_of_lt h.2]; rfl
  · rw [State.routeA_sub3, if_pos h]; rfl

theorem State.routeA_of_showsRam (s : State) {sub : BitVec 3} {a : Nat} (rw : Dir) (h : ShowsRam sub a) :
    s.routeA sub a rw = s.aram a a := by
  rcases h with ⟨rfl, h⟩ | ⟨rfl, h⟩ | ⟨rfl, h⟩ | ⟨rfl, h⟩ | rfl | rfl | ⟨rfl, from4000, below⟩
  · rw [State.routeA_sub0, if_neg (Nat.not_lt.2 h)]
  · rw [State.routeA_sub1, if_neg (by omega)]
  · rw [State.routeA_sub2, if_neg (by omega)]
  · rw [State.routeA_sub3, if_neg (Nat.not_le.2 h)]
  · exact s.routeA_sub4 a rw
  · exact s.routeA_sub5 a rw
  · rw [State.routeA_sub6, if_neg (Nat.not_lt.2 from4000), if_pos below]

/-- Settles O13: where the block shows, the decoder answers the block's own ranges. -/
theorem variantABlockDecode : Obligations.VariantABlockDecode := by
  unfold Obligations.VariantABlockDecode
  rintro s sub a m rw hm - rfl shown
  have block (rw : Dir) : s.route a rw = s.ammio (a % 0x4000) (decide (sub = 0#3 ∨ sub = 6#3)) rw :=
    (State.route_of_a hm a rw).trans (s.routeA_of_showsBlock rw shown)
  simp only [block]
  refine ⟨s.ammio_video _ rw, fun from3800 to3C00 => ⟨s.ammioRd_kbd _ from3800 to3C00, ?_⟩, fun at37E8 => ?_,
    fun from37E0 to37E3 => ⟨s.ammioRd_intlatch _ ⟨from37E0, to37E3⟩, s.ammioWr_fdsel ⟨from37E0, to37E3⟩⟩,
    fun at37E4 => ?_, fun from37EC to37EF => s.ammio_fdc _ rw ⟨from37EC, to37EF⟩,
    fun below latch printer fdc => ⟨fun cass => ?_, ?_⟩⟩
  · exact s.ammioWr_unmapped to3C00 (by omega) (by omega) (by omega) (by omega)
  · rw [at37E8]; exact s.ammio_printer _ rw
  · rw [at37E4]; exact s.ammioWr_cass
  · exact s.ammioWr_unmapped (by omega) printer latch cass fdc
  · exact (s.ammioRd_rom _ below printer latch fdc).trans (by simp only [decide_eq_true_eq])

/-- Settles O14: RAM by R162, the mirrored zone by R171, and the empty sub-mode. -/
theorem variantARamDecode : Obligations.VariantARamDecode := by
  unfold Obligations.VariantARamDecode
  intro s sub a rw hm lt
  rw [State.route_of_a hm]
  refine ⟨fun shown => ?_, ?_, ?_⟩
  · exact (s.routeA_of_showsRam rw shown).trans (s.aram_eq a a)
  · rintro rfl fromC000
    rw [State.routeA_sub6, if_neg (by omega), if_neg (Nat.not_lt.2 fromC000)]
    exact s.mirror_eq fromC000 lt
  · rintro rfl
    exact s.routeA_sub7 a rw

/-! ### Supermem (R173) -/

/-- Without the selector card variant A is in sub-mode 0, whose upper three quarters are RAM. -/
theorem State.route_of_noCard {s : State} (hm : s.model = .a) (card : s.straps.selectorEnabled = false) {a : Nat}
    (rw : Dir) (from4000 : 0x4000 ≤ a) : s.route a rw = ⟨.ram, a + s.aramExtra a⟩ := by
  have mode : s.mode = .a 0#3 := (State.mode_of_a hm).trans (by rw [if_neg (Bool.eq_false_iff.1 card)])
  rw [State.route_of_a mode, State.routeA_sub0, if_neg (Nat.not_lt.2 from4000), State.aram_eq]

/-- With Supermem and the selector register at its reset value the upper half is the banked one. -/
theorem State.aramExtra_of_supermem {s : State} (fitted : s.straps.supermem = true) (reg : s.bank.selectorReg = 0#8)
    (a : Nat) : s.aramExtra a = if a < 0x8000 then 0 else s.bank.bankBase.toNat := by
  unfold State.aramExtra
  by_cases lower : a < 0x8000 <;> simp [fitted, reg, lower]

/-- Settles O17: EXP_WR sets the base, which sub-mode 0 adds in the upper half only. -/
theorem supermemWindow : Obligations.SupermemWindow := by
  unfold Obligations.SupermemWindow
  intro s v fitted legal reg
  obtain ⟨huffman, supermem, -⟩ := (legalConfiguration_iff s.model s.straps).1 legal
  obtain ⟨hm, card⟩ := supermem fitted
  have noHuffman : s.straps.huffmanRam = false :=
    Bool.eq_false_iff.2 fun h => Bool.eq_false_iff.1 (huffman h).2.1 fitted
  have window (a : Nat) (rw : Dir) (from4000 : 0x4000 ≤ a) :
      ((s.expansionWrite v).reply .nothing).route a rw =
        ⟨.ram, a + if a < 0x8000 then 0 else v.toNat % 16 * 0x8000⟩ := by
    rw [State.route_reply, State.expansionWrite_of_supermem v noHuffman fitted,
      State.route_of_noCard (by exact hm) (by exact card) rw from4000,
      State.aramExtra_of_supermem (by exact fitted) (by exact reg), State.setBank_bank, supermemBase_toNat]
  refine ⟨_, exec_expWr v s, fun a rw => ⟨fun from8000 _ => ?_, fun from4000 below => ?_⟩⟩
  · rw [window a rw (by omega), if_neg (Nat.not_lt.2 from8000),
      show a + v.toNat % 16 * 0x8000 = 0x8000 + v.toNat % 16 * 0x8000 + (a - 0x8000) by omega]
  · rw [window a rw from4000, if_pos below, Nat.add_zero]

end Sys2Proof.Machine

/-! # Address decoding of variants B, C and D (42_decode_variants_bcd.md)

Map 0 of C is the low block of B under banked RAM (R193), and map 0 of D differs from it only where a read below 0x3800
finds RAM in place of the ROM (`State.routeMap0D_eq`, R195, R198). Each table is said once, range by range; the statements
put together the table that the variant and the map select. -/

namespace Sys2Proof.Machine

/-! ### The low block (R192, R193) -/

section lowBlock
variable (s : State) {a : Nat}

theorem State.lowBlock_printer (rw : Dir) : s.lowBlock 0x37E8 rw = ⟨.printer, 0⟩ := rfl

theorem State.lowBlock_rom (rw : Dir) (inRom : a < s.romSize.val) (printer : a ≠ 0x37E8) :
    s.lowBlock a rw = romTarget a rw := by
  unfold State.lowBlock
  rw [if_neg printer, if_pos inRom]

theorem State.lowBlock_unmapped (rw : Dir) (pastRom : s.romSize.val ≤ a) (below : a < 0x3800) (printer : a ≠ 0x37E8) :
    s.lowBlock a rw = ⟨.none, 0⟩ := by
  unfold State.lowBlock
  rw [if_neg printer, if_neg (by omega), if_neg (by omega), if_neg (by omega)]
  rfl

/-- A loaded ROM ends below the keyboard and video zones, so it hides neither (R23). -/
theorem State.lowBlock_kbd (rw : Dir) (from3800 : 0x3800 ≤ a) (below : a < 0x3C00) :
    s.lowBlock a rw = kbdTarget (a - 0x3800) rw := by
  have := s.romSize_le
  unfold State.lowBlock
  rw [if_neg (by omega), if_neg (by omega), if_neg (by omega), if_pos from3800]

theorem State.lowBlock_video (rw : Dir) (from3C00 : 0x3C00 ≤ a) :
    s.lowBlock a rw = ⟨.video, (a - 0x3C00) + s.videoOffset⟩ := by
  have := s.romSize_le
  unfold State.lowBlock
  rw [if_neg (by omega), if_neg (by omega), if_pos from3C00]
  rfl

/-- Below the video zone a write reaches the printer only. -/
theorem State.lowBlock_wr (below : a < 0x3C00) (printer : a ≠ 0x37E8) : s.lowBlock a .wr = ⟨.none, 0⟩ := by
  rcases Nat.lt_or_ge a s.romSize.val with inRom | pastRom
  · exact s.lowBlock_rom .wr inRom printer
  · rcases Nat.lt_or_ge a 0x3800 with low | from3800
    · exact s.lowBlock_unmapped .wr pastRom low printer
    · exact s.lowBlock_kbd .wr from3800 below

end lowBlock

/-! ### Variant B (R192) -/

section variantB
variable {s : State} {a : Nat}

theorem State.route_of_b (hm : s.model = .b) (a : Nat) (rw : Dir) :
    s.route a rw = if 0x4000 ≤ a then ⟨.ram, a⟩ else s.lowBlock a rw := by
  unfold State.route
  rw [State.mode_of_b hm]
  rfl

theorem State.route_of_b_low (hm : s.model = .b) (rw : Dir) (below : a < 0x4000) : s.route a rw = s.lowBlock a rw :=
  (State.route_of_b hm a rw).trans (if_neg (Nat.not_le.2 below))

end variantB

/-- Settles O10: RAM from 0x4000 on, the low block below. -/
theorem variantBDecode : Obligations.VariantBDecode := by
  unfold Obligations.VariantBDecode
  intro s a rw hm _
  have low (rw : Dir) (below : a < 0x4000) : s.route a rw = s.lowBlock a rw := State.route_of_b_low hm rw below
  have romEnd := s.romSize_le
  refine ⟨fun from4000 => ?_, fun at37E8 => ?_, fun inRom printer => ?_, fun pastRom below printer => ?_,
    fun below printer => ?_, fun from3800 below => ?_, fun from3C00 below => ?_⟩
  · exact (State.route_of_b hm a rw).trans (if_pos from4000)
  · subst at37E8; exact (low rw (by decide)).trans (s.lowBlock_printer rw)
  · exact (low .rd (by omega)).trans (s.lowBlock_rom .rd inRom printer)
  · exact (low .rd (by omega)).trans (s.lowBlock_unmapped .rd pastRom below printer)
  · exact (low .wr (by omega)).trans (s.lowBlock_wr below printer)
  · exact (low .rd (by omega)).trans (s.lowBlock_kbd .rd from3800 below)
  · exact (low rw below).trans (s.lowBlock_video rw from3C00)

/-! ### The tables of variants C and D -/

/-- `BANKED(a)` (R191), with the lower half first. -/
theorem State.banked_eq (s : State) (a : Nat) :
    s.banked a = ⟨.ram, a + (if a < 0x8000 then s.bank.bankOffset0 else s.bank.bankOffset1).toNat⟩ := by
  unfold State.banked upperHalf
  rcases Nat.lt_or_ge a 0x8000 with lower | upper
  · simp [lower, Nat.not_le.2 lower]
  · simp [upper, Nat.not_lt.2 upper]

/-- Where map 0 of variant D reads RAM below the keyboard zone: past the ROM, or with the ROM off (R195, R198). -/
def State.ReadsLowRam (s : State) (romin : Bool) (a : Nat) (rw : Dir) : Prop :=
  rw = .rd ∧ a < 0x3800 ∧ a ≠ 0x37E8 ∧ (s.romSize.val ≤ a ∨ romin = false)

theorem State.not_readsLowRam_wr (s : State) (romin : Bool) (a : Nat) : ¬s.ReadsLowRam romin a .wr := by
  rintro ⟨⟨⟩, -⟩

section tables
variable (s : State) {a : Nat} (rw : Dir)

theorem State.routeMap0C_low (below : a < 0x4000) : s.routeMap0C a rw = s.lowBlock a rw :=
  if_neg (Nat.not_le.2 below)

theorem State.routeMap0D_of_readsLowRam {romin : Bool} (h : s.ReadsLowRam romin a rw) :
    s.routeMap0D romin a rw = s.banked a := by
  obtain ⟨rfl, below, printer, noRom⟩ := h
  unfold State.routeMap0D
  rw [if_neg (by omega), if_neg printer, if_neg ?_, if_pos below]
  rintro ⟨rfl, -, inRom⟩
  rcases noRom with pastRom | off
  · omega
  · cases off

/-- Everywhere else map 0 of variant D is map 0 of variant C. -/
theorem State.routeMap0D_of_not_readsLowRam {romin : Bool} (h : ¬s.ReadsLowRam romin a rw) :
    s.routeMap0D romin a rw = s.routeMap0C a rw := by
  have romEnd := s.romSize_le
  by_cases from4000 : 0x4000 ≤ a
  · exact (if_pos from4000).trans (if_pos from4000).symm
  rw [s.routeMap0C_low rw (Nat.not_le.1 from4000)]
  by_cases printer : a = 0x37E8
  · rw [printer]; rfl
  unfold State.routeMap0D
  rw [if_neg from4000, if_neg printer]
  rcases Nat.lt_or_ge a 0x3800 with below | from3800
  · cases rw
    case rd =>
      have rom : a < s.romSize.val ∧ romin = true := by
        simpa [State.ReadsLowRam, below, printer, not_or] using h
      rw [if_pos ⟨rom.2, rfl, rom.1⟩, s.lowBlock_rom .rd rom.1 printer]
      rfl
    case wr =>
      rw [if_neg (by simp), if_pos below, s.lowBlock_wr (by omega) printer]
      rfl
  · rw [if_neg (by omega), if_neg (Nat.not_lt.2 from3800)]
    by_cases from3C00 : 0x3C00 ≤ a
    · rw [if_pos from3C00, s.lowBlock_video rw from3C00]
      rfl
    · rw [if_neg from3C00, s.lowBlock_kbd rw from3800 (Nat.not_le.1 from3C00)]

theorem State.routeMap1_rom (inRom : a < s.romSize.val) : s.routeMap1 true a .rd = ⟨.rom, a⟩ :=
  if_pos ⟨rfl, rfl, inRom⟩

/-- Where map 1 shows no ROM, it decodes as with the ROM off. -/
theorem State.routeMap1_of_not_rom {romin : Bool} (noRom : ¬(romin = true ∧ rw = .rd ∧ a < s.romSize.val)) :
    s.routeMap1 romin a rw = s.routeMap1 false a rw :=
  (if_neg noRom).trans (if_neg (by simp)).symm

theorem State.routeMap1_ram (zone : a < 0x3800 ∨ 0x4000 ≤ a) : s.routeMap1 false a rw = s.banked a := by
  unfold State.routeMap1
  rw [if_neg (by simp), if_pos zone.symm]

theorem State.routeMap1_kbd (romin : Bool) (from3800 : 0x3800 ≤ a) (below : a < 0x3C00) :
    s.routeMap1 romin a rw = kbdTarget (a - 0x3800) rw := by
  have := s.romSize_le
  unfold State.routeMap1
  rw [if_neg (by omega), if_neg (by omega), if_neg (by omega)]

theorem State.routeMap1_video (romin : Bool) (from3C00 : 0x3C00 ≤ a) (below : a < 0x4000) :
    s.routeMap1 romin a rw = ⟨.video, (a - 0x3C00) + s.videoOffset⟩ := by
  have := s.romSize_le
  unfold State.routeMap1
  rw [if_neg (by omega), if_neg (by omega), if_pos from3C00]
  rfl

theorem State.routeMap2_ram (below : a < 0xF400) : s.routeMap2 a rw = s.banked a := if_pos below

theorem State.routeMap2_kbd (fromF400 : 0xF400 ≤ a) (below : a < 0xF800) :
    s.routeMap2 a rw = kbdTarget (a - 0xF400) rw :=
  (if_neg (Nat.not_lt.2 fromF400)).trans (if_pos below)

theorem State.routeMap2_unmapped (fromF800 : 0xF800 ≤ a) (below : a < 0xFC00) : s.routeMap2 a rw = ⟨.none, 0⟩ := by
  unfold State.routeMap2
  rw [if_neg (by omega), if_neg (Nat.not_lt.2 fromF800), if_pos below]
  rfl

theorem State.routeMap2_video (fromFC00 : 0xFC00 ≤ a) : s.routeMap2 a rw = ⟨.video, a - 0xFC00⟩ := by
  unfold State.routeMap2
  rw [if_neg (by omega), if_neg (by omega), if_neg (Nat.not_lt.2 fromFC00)]

end tables

/-! ### Which table a state selects (R27, R193 to R197) -/

section select
variable {s : State} {a : Nat} {rw : Dir}

theorem State.route_of_c (hm : s.model = .c) (a : Nat) (rw : Dir) : s.route a rw = s.routeC s.bank.mapSel a rw := by
  unfold State.route
  rw [State.mode_of_c hm]

theorem State.route_of_d (hm : s.model = .d) (a : Nat) (rw : Dir) :
    s.route a rw = s.routeD s.bank.romin s.bank.mapSel a rw := by
  unfold State.route
  rw [State.mode_of_d hm]

/-- Map 0, but for the reads of low RAM that variant D alone has. -/
theorem State.route_of_map0 (hm : s.model = .c ∨ s.model = .d) (map : s.bank.mapSel = 0#2)
    (noLowRam : s.model = .d → ¬s.ReadsLowRam s.bank.romin a rw) : s.route a rw = s.routeMap0C a rw := by
  rcases hm with hm | hm
  · rw [State.route_of_c hm, map]; rfl
  · rw [State.route_of_d hm, map]
    exact s.routeMap0D_of_not_readsLowRam rw (noLowRam hm)

theorem State.route_of_map0_lowRam (hm : s.model = .d) (map : s.bank.mapSel = 0#2)
    (lowRam : s.ReadsLowRam s.bank.romin a rw) : s.route a rw = s.banked a := by
  rw [State.route_of_d hm, map]
  exact s.routeMap0D_of_readsLowRam rw lowRam

/-- The boot ROM is switched on: variant D's `romin` (variant C has no ROM in map 1). -/
def State.romOn (s : State) : Bool := decide (s.model = .d) && s.bank.romin

theorem State.romOn_iff : s.romOn = true ↔ s.model = .d ∧ s.bank.romin = true := by
  simp [State.romOn]

theorem State.route_of_map1 (hm : s.model = .c ∨ s.model = .d) (map : s.bank.mapSel = 1#2) (a : Nat) (rw : Dir) :
    s.route a rw = s.routeMap1 s.romOn a rw := by
  unfold State.romOn
  rcases hm with hm | hm
  · rw [State.route_of_c hm, map, hm]; rfl
  · rw [State.route_of_d hm, map, hm]; rfl

theorem State.route_of_map2 (hm : s.model = .c ∨ s.model = .d) (map : s.bank.mapSel = 2#2) (a : Nat) (rw : Dir) :
    s.route a rw = s.routeMap2 a rw := by
  rcases hm with hm | hm
  · rw [State.route_of_c hm, map]; rfl
  · rw [State.route_of_d hm, map]; rfl

end select

/-- Settles O11: both variants by the table of C, and D's low RAM apart. -/
theorem mapZeroDecode : Obligations.MapZeroDecode := by
  unfold Obligations.MapZeroDecode
  intro s a rw hm map _
  have romEnd := s.romSize_le
  have table {rw : Dir} (h : ¬s.ReadsLowRam s.bank.romin a rw) : s.route a rw = s.routeMap0C a rw :=
    State.route_of_map0 hm map fun _ => h
  have low {rw : Dir} (below : a < 0x4000) (h : ¬s.ReadsLowRam s.bank.romin a rw) : s.route a rw = s.lowBlock a rw :=
    (table h).trans (s.routeMap0C_low rw below)
  have lowWr (below : a < 0x4000) : s.route a .wr = s.lowBlock a .wr := low below (s.not_readsLowRam_wr _ a)
  refine ⟨fun from4000 => ?_, fun at37E8 => ?_, fun below printer => ?_, fun inRom printer shown => ?_,
    fun pastRom below printer hc => ?_, fun noRom below printer hd => ?_,
    fun from3800 below => ⟨?_, ?_⟩, fun from3C00 below => ?_⟩
  · rw [← s.banked_eq, table fun ⟨_, below, _⟩ => by omega]
    exact if_pos from4000
  · subst at37E8
    exact (low (by decide) fun ⟨_, _, printer, _⟩ => printer rfl).trans (s.lowBlock_printer rw)
  · exact (lowWr (by omega)).trans (s.lowBlock_wr (by omega) printer)
  · have covered : s.model = .d → ¬s.ReadsLowRam s.bank.romin a .rd := by
      rintro hd ⟨-, -, -, pastRom | off⟩
      · omega
      · simp [hd, off] at shown
    rw [State.route_of_map0 hm map covered, s.routeMap0C_low .rd (by omega), s.lowBlock_rom .rd inRom printer]
    rfl
  · rw [State.route_of_map0 hm map fun hd => by simp [hc] at hd, s.routeMap0C_low .rd (by omega),
      s.lowBlock_unmapped .rd pastRom below printer]
  · rw [State.route_of_map0_lowRam hd map ⟨rfl, below, printer, noRom⟩, s.banked_eq, if_pos (by omega)]
  · exact (low (by omega) fun ⟨_, _, _⟩ => by omega).trans (s.lowBlock_kbd .rd from3800 below)
  · exact (lowWr (by omega)).trans (s.lowBlock_wr below (by omega))
  · exact (low below fun ⟨_, _, _⟩ => by omega).trans (s.lowBlock_video rw from3C00)

/-- Settles O12: map by map, from the range of its table. -/
theorem mapsOneToThreeDecode : Obligations.MapsOneToThreeDecode := by
  unfold Obligations.MapsOneToThreeDecode
  intro s a rw hm _
  simp only [← s.banked_eq]
  refine ⟨fun map => ?_, fun map => ?_, fun map => State.route_of_map3 hm map a rw⟩
  · have romEnd := s.romSize_le
    simp only [State.route_of_map1 hm map]
    refine ⟨fun hd on inRom => ?_, fun noRom zone => ?_,
      fun from3800 below => ⟨s.routeMap1_kbd .rd _ from3800 below, s.routeMap1_kbd .wr _ from3800 below⟩,
      s.routeMap1_video rw _⟩
    · rw [State.romOn_iff.2 ⟨hd, on⟩]
      refine ⟨s.routeMap1_rom inRom, ?_⟩
      rw [s.routeMap1_of_not_rom .wr (by simp), s.routeMap1_ram .wr (.inl (by omega))]
    · have hidden : ¬(s.romOn = true ∧ rw = .rd ∧ a < s.romSize.val) := by
        rw [State.romOn_iff]
        rintro ⟨⟨hd, on⟩, -, inRom⟩
        rcases noRom with hc | off | pastRom
        · simp [hc] at hd
        · simp [off] at on
        · omega
      rw [s.routeMap1_of_not_rom rw hidden, s.routeMap1_ram rw zone]
  · simp only [State.route_of_map2 hm map]
    exact ⟨s.routeMap2_ram rw,
      fun fromF400 below => ⟨s.routeMap2_kbd .rd fromF400 below, s.routeMap2_kbd .wr fromF400 below⟩,
      s.routeMap2_unmapped rw, s.routeMap2_video rw⟩

/-! ### What `romin` changes (R199) -/

section romin
variable (s : State) {a : Nat} {rw : Dir} {b c : Bool}

/-- In map 0 `romin` matters only by where it lets low RAM be read. -/
theorem State.routeMap0D_congr (h : s.ReadsLowRam b a rw ↔ s.ReadsLowRam c a rw) :
    s.routeMap0D b a rw = s.routeMap0D c a rw := by
  by_cases lowRam : s.ReadsLowRam b a rw
  · rw [s.routeMap0D_of_readsLowRam rw lowRam, s.routeMap0D_of_readsLowRam rw (h.1 lowRam)]
  · rw [s.routeMap0D_of_not_readsLowRam rw lowRam, s.routeMap0D_of_not_readsLowRam rw (mt h.2 lowRam)]

/-- Low RAM past the ROM is read whatever `romin` is. -/
theorem State.ReadsLowRam.of_not_rom {s : State} (h : s.ReadsLowRam b a rw)
    (noRom : rw = .wr ∨ s.romSize.val ≤ a ∨ a = 0x37E8) : s.ReadsLowRam c a rw := by
  obtain ⟨rfl, below, printer, -⟩ := h
  rcases noRom with ⟨⟨⟩⟩ | pastRom | at37E8
  · exact ⟨rfl, below, printer, .inl pastRom⟩
  · exact absurd at37E8 printer

theorem State.routeMap0D_romin_congr (noRom : rw = .wr ∨ s.romSize.val ≤ a ∨ a = 0x37E8) :
    s.routeMap0D b a rw = s.routeMap0D c a rw :=
  s.routeMap0D_congr ⟨fun h => h.of_not_rom noRom, fun h => h.of_not_rom noRom⟩

theorem State.routeMap1_romin_congr (noRom : rw = .wr ∨ s.romSize.val ≤ a) :
    s.routeMap1 b a rw = s.routeMap1 c a rw := by
  have hidden (r : Bool) : ¬(r = true ∧ rw = .rd ∧ a < s.romSize.val) := by
    rintro ⟨-, rfl, inRom⟩
    rcases noRom with ⟨⟨⟩⟩ | pastRom
    omega
  rw [s.routeMap1_of_not_rom rw (hidden b), s.routeMap1_of_not_rom rw (hidden c)]

theorem mapNumber_cases (map : BitVec 2) : map = 0#2 ∨ map = 1#2 ∨ map = 2#2 ∨ map = 3#2 := by
  revert map; decide

/-- R199 on the tables: `romin` matters only to reads of the ROM in maps 0 and 1. -/
theorem State.routeD_romin_congr {map : BitVec 2}
    (h : rw = .wr ∨ s.romSize.val ≤ a ∨ map = 2#2 ∨ map = 3#2 ∨ (map = 0#2 ∧ a = 0x37E8)) :
    s.routeD b map a rw = s.routeD c map a rw := by
  rcases mapNumber_cases map with rfl | rfl | rfl | rfl
  · exact s.routeMap0D_romin_congr (by simpa using h)
  · exact s.routeMap1_romin_congr (by simpa using h)
  · rfl
  · rfl

end romin

/-- SET_ROMIN on variant D: the tables of the state before it, with the new `romin`. -/
theorem State.route_setRominOp_of_d {s : State} (b : Bool) (hm : s.model = .d) (a : Nat) (rw : Dir) :
    (s.setRominOp b).route a rw = s.routeD b s.bank.mapSel a rw := by
  rw [State.setRominOp_of_d b hm, State.route_of_d (by exact hm)]
  rfl

/-- Settles O18: SET_ROMIN moves `romin` only, and the tables agree there. -/
theorem rominChangesOnlyRomReads : Obligations.RominChangesOnlyRomReads := by
  unfold Obligations.RominChangesOnlyRomReads
  intro s b a rw hm _ noRom
  refine ⟨_, exec_setRomin b s, ?_⟩
  rw [State.route_reply, State.route_setRominOp_of_d b hm, State.route_of_d hm]
  exact s.routeD_romin_congr noRom

end Sys2Proof.Machine

/-! # Bus operations (43_bus_operations.md)

What a byte access does is said region by region (`State.readByte_of_ram` and its siblings), and the words and BLOCK are
reduced to byte accesses: the result an operation leaves is dropped by the next (`State.readByte_reply`,
`State.writeByte_reply`), so a run of byte operations is the byte accesses composed. -/

namespace Sys2Proof.Machine
open Sys2Proof.Safety

/-! ### Byte accesses, region by region -/

theorem Target.eq_of_region {t : Target} {r : Region} (h : t.region = r) : t = ⟨r, t.off⟩ := by
  subst h; rfl

/-- The regions a read hands to a peripheral (R220, R62). -/
def readPeripherals : List Region := [.kbd, .printer, .intlatch, .fdc]

/-- The regions a write hands to a peripheral (R221, R62). -/
def writePeripherals : List Region := [.printer, .fdsel, .cass, .fdc]

section byteAccess
variable {s : State} {a : Addr} {o : Nat}

theorem State.readByte_of_rom (h : s.route a.toNat .rd = ⟨.rom, o⟩) : s.readByte a = (s.romByte o, s) := by
  unfold State.readByte
  rw [h]; rfl

theorem State.readByte_of_video (h : s.route a.toNat .rd = ⟨.video, o⟩) : s.readByte a = (s.videoByte o, s) := by
  unfold State.readByte
  rw [h]; rfl

theorem State.readByte_of_unmapped (h : s.route a.toNat .rd = ⟨.none, o⟩) : s.readByte a = (Config.sentinel, s) := by
  unfold State.readByte
  rw [h]; rfl

theorem State.readTarget_of_peripheral (s : State) {t : Target} (h : t.region ∈ readPeripherals) :
    s.readTarget t = s.periphRead t.region t.off := by
  obtain ⟨region, off⟩ := t
  simp only [readPeripherals, List.mem_cons, List.not_mem_nil, or_false] at h
  rcases h with rfl | rfl | rfl | rfl <;> rfl

theorem State.writeByte_of_video (v : Byte) (h : s.route a.toNat .wr = ⟨.video, o⟩) :
    s.writeByte a v = s.videoWrite o v := by
  unfold State.writeByte
  rw [h]; rfl

theorem State.writeByte_of_unmapped (v : Byte) (h : s.route a.toNat .wr = ⟨.none, o⟩) : s.writeByte a v = s := by
  unfold State.writeByte
  rw [h]; rfl

theorem State.writeTarget_of_peripheral (s : State) {t : Target} (v : Byte) (h : t.region ∈ writePeripherals) :
    s.writeTarget t v = s.emit (.periphWrite t.region t.off v) := by
  obtain ⟨region, off⟩ := t
  simp only [writePeripherals, List.mem_cons, List.not_mem_nil, or_false] at h
  rcases h with rfl | rfl | rfl | rfl <;> rfl

theorem exec_memrd_of_readByte {b : Byte} {t : State} (h : s.readByte a = (b, t)) :
    exec (.memrd a) s = .next (t.reply (.byte b)) := by
  rw [exec_memrd, h]

theorem exec_memwr_of_writeByte {v : Byte} {t : State} (h : s.writeByte a v = t) :
    exec (.memwr a v) s = .next (t.reply .nothing) := by
  rw [exec_memwr, h]

/-- The decoder selects no region that the direction excludes (R62). -/
theorem State.route_region_ne {rw : Dir} {r : Region} (excluded : allows r rw = false) :
    (s.route a.toNat rw).region ≠ r := by
  rintro rfl
  obtain ⟨-, allowed⟩ := s.route_ok a.toNat rw a.isLt
  rw [allowed] at excluded
  cases excluded

end byteAccess

/-- Settles O19: one byte access per region; FDSEL and CASS are excluded from reads. -/
theorem memrdByRegion : Obligations.MemrdByRegion := by
  unfold Obligations.MemrdByRegion
  intro s a r
  refine ⟨fun ram => ?_, fun rom => ?_, fun video => ?_, fun unmapped => ?_, fun peripheral => ?_,
    State.route_region_ne rfl, State.route_region_ne rfl⟩
  · exact exec_memrd_of_readByte (State.readByte_of_ram (Target.eq_of_region ram))
  · exact exec_memrd_of_readByte (State.readByte_of_rom (Target.eq_of_region rom))
  · exact exec_memrd_of_readByte (State.readByte_of_video (Target.eq_of_region video))
  · exact exec_memrd_of_readByte (State.readByte_of_unmapped (Target.eq_of_region unmapped))
  · exact ⟨_, exec_memrd_of_readByte (s.readTarget_of_peripheral peripheral)⟩

/-- A video write leaves everything but the video store and the events alone (R222). -/
theorem State.videoWrite_eq (s : State) (o : Nat) (v : Byte) :
    s.videoWrite o v = { s with video := (s.videoWrite o v).video, events := (s.videoWrite o v).events } := by
  unfold State.videoWrite
  split <;> rfl

/-- Settles O20: one byte access per region; ROM, KBD and INTLATCH are excluded from writes. -/
theorem memwrByRegion : Obligations.MemwrByRegion := by
  unfold Obligations.MemwrByRegion
  intro s a v r
  refine ⟨fun ram =>
      ⟨_, exec_memwr_of_writeByte (State.writeByte_of_ram v (Target.eq_of_region ram)), rfl, fun o => ?_⟩,
    fun video =>
      ⟨_, exec_memwr_of_writeByte (State.writeByte_of_video v (Target.eq_of_region video)), ?_, fun o => ?_⟩,
    fun unmapped => exec_memwr_of_writeByte (State.writeByte_of_unmapped v (Target.eq_of_region unmapped)),
    fun peripheral => exec_memwr_of_writeByte (s.writeTarget_of_peripheral v peripheral),
    State.route_region_ne rfl, State.route_region_ne rfl, State.route_region_ne rfl⟩
  · exact (s.ramByte_setRam r.off o v).trans (if_congr eq_comm rfl rfl)
  · exact congrArg (State.reply · .nothing) (s.videoWrite_eq r.off v)
  · exact (s.videoByte_videoWrite r.off o v).trans (if_congr eq_comm rfl rfl)

/-- Settles O21: the two branches of a video write. -/
theorem videoWriteNotifiesOnChange : Obligations.VideoWriteNotifiesOnChange := by
  unfold Obligations.VideoWriteNotifiesOnChange
  intro s a v r video
  have write : s.writeByte a v = s.videoWrite r.off v := State.writeByte_of_video v (Target.eq_of_region video)
  refine ⟨fun same => ?_, fun differs => ⟨_, exec_memwr_of_writeByte write, ?_, ?_⟩⟩
  · exact exec_memwr_of_writeByte (write.trans (if_pos same))
  · rw [State.reply_events, State.videoWrite, if_neg differs]
    rfl
  · exact (s.videoByte_videoWrite r.off r.off v).trans (if_pos rfl)

/-! ### Words (R224, R225) -/

/-- Settles O23: the second byte operation drops the result of the first. -/
theorem wordsAreTwoByteOperations : Obligations.WordsAreTwoByteOperations := by
  unfold Obligations.WordsAreTwoByteOperations
  refine ⟨fun s a => ⟨_, _, _, _, exec_memrd a s, rfl, exec_memrd _ _, rfl, ?_⟩,
    fun s a w => ⟨_, _, exec_memwr a _ s, exec_memwr _ _ _, ?_⟩⟩
  · rw [exec_wordrd, State.readByte_reply]
    rfl
  · rw [exec_wordwr, State.writeByte_reply, State.reply_reply]
    rfl

/-! ### BLOCK (R228) -/

theorem exec_block (dst src count : Addr) (dir : Direction) (s : State) :
    exec (.block dst src count dir) s =
      .next ((State.moveBytes dir (blockCount count) s dst src 0#8).2.reply
        (.byte (State.moveBytes dir (blockCount count) s dst src 0#8).1)) := rfl

/-- BLOCK moves at least one byte. -/
theorem blockCount_eq_succ (count : Addr) : ∃ n, blockCount count = n + 1 := by
  refine Nat.exists_eq_succ_of_ne_zero ?_
  unfold blockCount
  split
  · omega
  · next nonzero => exact fun zero => nonzero (BitVec.eq_of_toNat_eq zero)

section moveBytes
variable (dir : Direction) (n : Nat) (s : State) (dst src : Addr) (last : Byte)

/-- One iteration: the byte read is written before the next read. -/
theorem State.moveBytes_succ :
    State.moveBytes dir (n + 1) s dst src last =
      State.moveBytes dir n ((s.readByte src).2.writeByte dst (s.readByte src).1) (stepPointer dir dst)
        (stepPointer dir src) (s.readByte src).1 := rfl

/-- BLOCK does not look at the result of the operation before. -/
theorem State.moveBytes_reply (x : Answer) :
    State.moveBytes dir n (s.reply x) dst src last =
      ((State.moveBytes dir n s dst src last).1, (State.moveBytes dir n s dst src last).2.reply x) := by
  induction n generalizing s dst src last with
  | zero => rfl
  | succ n ih =>
    rw [State.moveBytes_succ, State.readByte_reply, State.writeByte_reply, ih]
    rfl

/-- One pair of MEMRD and MEMWR, in terms of the byte accesses. -/
theorem copyBytes_succ (delta : Addr) :
    copyBytes delta (n + 1) s dst src =
      if n = 0 then
        .next (((s.readByte src).2.writeByte dst (s.readByte src).1).reply (.byte (s.readByte src).1))
      else
        copyBytes delta n (((s.readByte src).2.writeByte dst (s.readByte src).1).reply .nothing) (dst + delta)
          (src + delta) := by
  simp only [copyBytes, exec_memrd, exec_memwr, State.reply_answer, State.writeByte_reply, State.reply_reply]
  rfl

/-- The pairs of byte operations that R228 speaks of are the iterations of BLOCK. -/
theorem copyBytes_eq_moveBytes {delta : Addr} (step : ∀ p, stepPointer dir p = p + delta) :
    copyBytes delta (n + 1) s dst src =
      .next ((State.moveBytes dir (n + 1) s dst src last).2.reply
        (.byte (State.moveBytes dir (n + 1) s dst src last).1)) := by
  induction n generalizing s dst src last with
  | zero => rw [copyBytes_succ, if_pos rfl]; rfl
  | succ n ih =>
    rw [copyBytes_succ, if_neg n.succ_ne_zero, ih _ _ _ (s.readByte src).1, State.moveBytes_reply, State.reply_reply,
      State.moveBytes_succ dir (n + 1), step, step]

end moveBytes

/-- Settles O25: BLOCK and the pairs of byte operations end in the same state. -/
theorem blockIsByteCopies : Obligations.BlockIsByteCopies := by
  unfold Obligations.BlockIsByteCopies
  intro s dst src count dir n delta
  have step (p : Addr) : stepPointer dir p = p + delta := by
    cases dir
    case up => rfl
    case down => exact BitVec.sub_eq_add_neg p 1#16
  obtain ⟨k, positive⟩ := blockCount_eq_succ count
  refine ⟨_, exec_block dst src count dir s, ?_⟩
  change copyBytes delta (blockCount count) s dst src = _
  rw [positive]
  exact copyBytes_eq_moveBytes dir k s dst src 0#8 step

/-! ### An overlapping block (R228) -/

/-- `n` bytes of RAM from `o` on set to `v`, one after the other. -/
def State.fillRam : Nat → State → Nat → Byte → State
  | 0, s, _, _ => s
  | n + 1, s, o, v => State.fillRam n (s.setRam o v) (o + 1) v

theorem State.fillRam_eq (n : Nat) (s : State) (o : Nat) (v : Byte) :
    s.fillRam n o v = { s with ram := (s.fillRam n o v).ram } := by
  induction n generalizing s o with
  | zero => rfl
  | succ n ih => exact ih (s.setRam o v) (o + 1)

theorem State.ramByte_fillRam (n : Nat) (s : State) (o p : Nat) (v : Byte) :
    (s.fillRam n o v).ramByte p = if o ≤ p ∧ p < o + n then v else s.ramByte p := by
  induction n generalizing s o with
  | zero => exact (if_neg (by omega)).symm
  | succ n ih =>
    rw [State.fillRam, ih, State.ramByte_setRam]
    grind

/-- Every address decodes to the RAM byte of its own number. -/
def State.AllRam (s : State) : Prop := ∀ a rw, s.route a rw = ⟨.ram, a⟩

/-- The all-RAM map with both offsets 0 (R197, R191). -/
theorem State.allRam_of_map3 {s : State} (hm : s.model = .c ∨ s.model = .d) (map : s.bank.mapSel = 3#2)
    (offset0 : s.bank.bankOffset0 = 0#21) (offset1 : s.bank.bankOffset1 = 0#21) : s.AllRam := by
  intro a rw
  rw [State.route_of_map3 hm map, State.banked_eq, offset0, offset1, ite_self]
  rfl

/-- Each byte that an upward copy to the next address reads is the one it has just written. -/
theorem State.moveBytes_up_next (n : Nat) (s : State) (src : Addr) (flat : s.AllRam) (room : src.toNat + n ≤ 0xFFFF) :
    State.moveBytes .up n s (src + 1#16) src (s.ramByte src.toNat) =
      (s.ramByte src.toNat, s.fillRam n (src.toNat + 1) (s.ramByte src.toNat)) := by
  induction n generalizing s src with
  | zero => rfl
  | succ n ih =>
    have next : (src + 1#16).toNat = src.toNat + 1 := by bv_omega
    have written :
        (s.setRam (src.toNat + 1) (s.ramByte src.toNat)).ramByte (src + 1#16).toNat = s.ramByte src.toNat := by
      rw [State.ramByte_setRam, if_pos next.symm]
    have rest := ih (s.setRam (src.toNat + 1) (s.ramByte src.toNat)) (src + 1#16) flat (by omega)
    rw [written, next] at rest
    rw [State.moveBytes_succ, State.readByte_of_ram (flat _ _), State.writeByte_of_ram _ (flat _ _), next]
    exact rest

/-- Settles O26: BLOCK from `src` to `src + 1` fills the bytes after `src` with the byte at `src`. -/
theorem blockForwardOverlapReplicates : Obligations.BlockForwardOverlapReplicates := by
  unfold Obligations.BlockForwardOverlapReplicates
  intro s src n hm map offset0 offset1 positive room
  have flat := State.allRam_of_map3 (.inl hm) map offset0 offset1
  have count : blockCount (BitVec.ofNat 16 n) = n := by
    have value : (BitVec.ofNat 16 n).toNat = n := Nat.mod_eq_of_lt (by omega)
    have nonzero : BitVec.ofNat 16 n ≠ 0#16 := fun zero => by simp [zero] at value; omega
    rw [blockCount, if_neg nonzero, value]
  have moved : State.moveBytes .up n s (src + 1#16) src 0#8 =
      (s.ramByte src.toNat, s.fillRam n (src.toNat + 1) (s.ramByte src.toNat)) := by
    obtain ⟨k, rfl⟩ := Nat.exists_eq_add_of_le' positive
    exact State.moveBytes_up_next (k + 1) s src flat room
  refine ⟨_, exec_block _ _ _ _ _, ?_⟩
  rw [count, moved]
  refine ⟨rfl, fun k le => ?_, fun o outside => ?_, congrArg (State.reply · _) (s.fillRam_eq n _ _)⟩
  · refine (s.ramByte_fillRam n _ _ _).trans ?_
    rcases Nat.eq_zero_or_pos k with rfl | pos
    · exact if_neg (by omega)
    · exact if_pos (by omega)
  · exact (s.ramByte_fillRam n _ _ _).trans (if_neg (by omega))

end Sys2Proof.Machine

/-! # Views (43_bus_operations.md, R226, R227, R229, R230)

The view target is said once per direction; `State.viewLen_eq` turns "largest contiguous length" into the two facts that
fix it, which is how the hole's length is computed. -/

namespace Sys2Proof.Machine

theorem exec_viewrd (a : Addr) (s : State) : exec (.viewrd a) s = .next (s.reply (s.view a.toNat .rd)) := rfl

theorem exec_viewwr (a : Addr) (s : State) : exec (.viewwr a) s = .next (s.reply (s.view a.toNat .wr)) := rfl

/-! ### What a view is a view of -/

/-- The regions a read view can show (R226). -/
def readableRegions : List Region := [.ram, .rom, .video]

section viewTarget
variable {s : State} {a : Nat} {rw : Dir} {t : Target}

theorem State.view_of_some (h : s.viewTarget a rw = some t) :
    s.view a rw = .view t.region t.off (s.viewLen rw t a) := by
  unfold State.view
  rw [h]

theorem State.view_of_none (h : s.viewTarget a rw = none) : s.view a rw = .unmapped := by
  unfold State.view
  rw [h]

theorem exec_viewrd_of_some {a : Addr} (h : s.viewTarget a.toNat .rd = some t) :
    exec (.viewrd a) s = .next (s.reply (.view t.region t.off (s.viewLen .rd t a.toNat))) := by
  rw [exec_viewrd, State.view_of_some h]

theorem exec_viewrd_of_none {a : Addr} (h : s.viewTarget a.toNat .rd = none) :
    exec (.viewrd a) s = .next (s.reply .unmapped) := by
  rw [exec_viewrd, State.view_of_none h]

theorem exec_viewwr_of_some {a : Addr} (h : s.viewTarget a.toNat .wr = some t) :
    exec (.viewwr a) s = .next (s.reply (.view t.region t.off (s.viewLen .wr t a.toNat))) := by
  rw [exec_viewwr, State.view_of_some h]

theorem exec_viewwr_of_none {a : Addr} (h : s.viewTarget a.toNat .wr = none) :
    exec (.viewwr a) s = .next (s.reply .unmapped) := by
  rw [exec_viewwr, State.view_of_none h]

theorem State.viewTarget_rd_of_mem (h : (s.route a .rd).region ∈ readableRegions) :
    s.viewTarget a .rd = some (s.route a .rd) := by
  simp only [readableRegions, List.mem_cons, List.not_mem_nil, or_false] at h
  unfold State.viewTarget
  rcases h with h | h | h <;> simp only [h]

theorem State.viewTarget_rd_of_notMem (h : (s.route a .rd).region ∉ readableRegions) : s.viewTarget a .rd = none := by
  unfold State.viewTarget
  cases region : (s.route a .rd).region
  case ram | rom | video => exact absurd (by rw [region]; decide) h
  all_goals rfl

theorem State.viewTarget_wr_of_hole (h : s.inHole a = true) : s.viewTarget a .wr = some (s.aram a a) := if_pos h

theorem State.viewTarget_wr_of_ram (noHole : s.inHole a = false) (h : (s.route a .wr).region = .ram) :
    s.viewTarget a .wr = some (s.route a .wr) := by
  simp only [State.viewTarget, noHole, h]
  rfl

theorem State.viewTarget_wr_of_not_ram (noHole : s.inHole a = false) (h : (s.route a .wr).region ≠ .ram) :
    s.viewTarget a .wr = none := by
  simp only [State.viewTarget, noHole]
  cases region : (s.route a .wr).region
  case ram => exact absurd region h
  all_goals rfl

theorem State.inHole_iff :
    s.inHole a = true ↔ s.mode = .a 0#3 ∧ s.straps.selectorEnabled = true ∧ 0x3800 ≤ a ∧ a ≤ 0x3AFF := by
  simp [State.inHole, and_assoc]

end viewTarget

/-- Settles O27: the view target of each direction, by the region its address decodes to. -/
theorem viewsByRegion : Obligations.ViewsByRegion := by
  unfold Obligations.ViewsByRegion
  intro s a r w hole
  have noHole (h : ¬hole) : s.inHole a.toNat = false := Bool.eq_false_iff.2 (mt State.inHole_iff.1 h)
  refine ⟨fun readable => ?_, fun unreadable => ?_, fun outside ram => ?_, fun outside notRam => ?_, fun inside => ?_⟩
  · exact ⟨_, exec_viewrd_of_some (State.viewTarget_rd_of_mem readable)⟩
  · exact exec_viewrd_of_none (State.viewTarget_rd_of_notMem unreadable)
  · have target : s.viewTarget a.toNat .wr = some ⟨.ram, w.off⟩ :=
      (State.viewTarget_wr_of_ram (noHole outside) ram).trans (congrArg some (Target.eq_of_region ram))
    exact ⟨_, exec_viewwr_of_some target⟩
  · exact exec_viewwr_of_none (State.viewTarget_wr_of_not_ram (noHole outside) notRam)
  · have target : s.viewTarget a.toNat .wr = some ⟨.ram, a.toNat + s.aramExtra a.toNat⟩ :=
      (State.viewTarget_wr_of_hole (State.inHole_iff.2 inside)).trans (congrArg some (s.aram_eq _ _))
    exact ⟨_, _, exec_viewwr_of_some target⟩

/-! ### The length of a view (R229) -/

/-- The address `i` bytes on continues the view of `t` at `a`. -/
def State.ContinuesView (s : State) (rw : Dir) (t : Target) (a i : Nat) : Prop :=
  s.viewTarget (a + i) rw = some ⟨t.region, t.off + i⟩

section viewLen
variable {s : State} {rw : Dir} {t : Target} {a n : Nat}

/-- No view passes 0xFFFF, every address counted continues it, and the next one does not (R229). -/
theorem State.viewLen_spec (s : State) (rw : Dir) (t : Target) (a : Nat) :
    s.viewLen rw t a ≤ 0x10000 - a ∧ (∀ i, i < s.viewLen rw t a → s.ContinuesView rw t a i)
      ∧ (s.viewLen rw t a < 0x10000 - a → ¬s.ContinuesView rw t a (s.viewLen rw t a)) := by
  simpa only [State.viewLen, State.ContinuesView, Nat.zero_add] using s.viewRun_spec rw t a (0x10000 - a) 0

/-- A view shows at least the byte it was asked for. -/
theorem State.viewLen_pos (lt : a < 0x10000) (h : s.viewTarget a rw = some t) : 1 ≤ s.viewLen rw t a := by
  obtain ⟨-, -, stops⟩ := s.viewLen_spec rw t a
  by_contra empty
  have zero : s.viewLen rw t a = 0 := by omega
  rw [zero] at stops
  exact stops (by omega) h

/-- The largest contiguous length is the one that continues so far and no further. -/
theorem State.viewLen_eq (room : n < 0x10000 - a) (continues : ∀ i, i < n → s.ContinuesView rw t a i)
    (stops : ¬s.ContinuesView rw t a n) : s.viewLen rw t a = n := by
  obtain ⟨-, counted, last⟩ := s.viewLen_spec rw t a
  rcases Nat.lt_trichotomy (s.viewLen rw t a) n with short | equal | long
  · exact absurd (continues _ short) (last (by omega))
  · exact equal
  · exact absurd (counted n long) stops

/-- A view answer comes from a view target, with its length. -/
theorem State.viewTarget_of_view {reg : Region} {off : Nat} (h : s.view a rw = .view reg off n) :
    s.viewTarget a rw = some ⟨reg, off⟩ ∧ n = s.viewLen rw ⟨reg, off⟩ a := by
  cases target : s.viewTarget a rw with
  | none => rw [State.view_of_none target] at h; cases h
  | some t => rw [State.view_of_some target] at h; cases h; exact ⟨rfl, rfl⟩

end viewLen

/-- Settles O28: the answer's length is `State.viewLen`, which is not 0 as the first byte is in the view. -/
theorem viewLengthIsMaximal : Obligations.ViewLengthIsMaximal := by
  unfold Obligations.ViewLengthIsMaximal
  intro s t a rw reg off n run answer
  have view : s.view a.toNat rw = .view reg off n := by
    cases rw <;> cases run <;> exact answer
  obtain ⟨target, rfl⟩ := State.viewTarget_of_view view
  have lt : a.toNat < 0x10000 := a.isLt
  obtain ⟨bounded, counted, stops⟩ := s.viewLen_spec rw ⟨reg, off⟩ a.toNat
  exact ⟨State.viewLen_pos lt target, by omega, counted, fun below => stops (by omega)⟩

/-! ### The keyboard hole (R230) -/

section keyboardZone
variable {s : State} {a : Nat} (hm : s.mode = .a 0#3) (from3800 : 0x3800 ≤ a)
include hm from3800

/-- In sub-mode 0 the keyboard zone is read-only and a peripheral (R163, R164). -/
theorem State.route_kbdZone_rd (to3BFF : a ≤ 0x3BFF) : s.route a .rd = ⟨.kbd, a - 0x3800⟩ := by
  rw [State.route_of_a hm, State.routeA_sub0, if_pos (by omega)]
  exact s.ammioRd_kbd true from3800 (by omega)

theorem State.route_kbdZone_wr (to3BFF : a ≤ 0x3BFF) : s.route a .wr = ⟨.none, 0⟩ := by
  rw [State.route_of_a hm, State.routeA_sub0, if_pos (by omega)]
  exact s.ammioWr_unmapped (by omega) (by omega) (by omega) (by omega) (by omega)

variable (lowBank : s.bank.selectorReg.getLsbD 0 = false)

include lowBank in
/-- The hole is RAM without the base: the banked half is the upper one (R230, R162). -/
theorem State.viewTarget_hole (card : s.straps.selectorEnabled = true) (to3AFF : a ≤ 0x3AFF) :
    s.viewTarget a .wr = some ⟨.ram, a⟩ := by
  rw [State.viewTarget_wr_of_hole (State.inHole_iff.2 ⟨hm, card, from3800, to3AFF⟩), State.aram_of_card card, lowBank,
    if_neg (by simp; omega)]
  rfl

/-- Without the card, and past the hole, a write view of the keyboard zone shows nothing. -/
theorem State.viewTarget_kbdZone_wr (outside : ¬(s.straps.selectorEnabled = true ∧ a ≤ 0x3AFF)) (to3BFF : a ≤ 0x3BFF) :
    s.viewTarget a .wr = none := by
  have noHole : s.inHole a = false :=
    Bool.eq_false_iff.2 fun inside => by
      obtain ⟨-, card, -, to3AFF⟩ := State.inHole_iff.1 inside
      exact outside ⟨card, to3AFF⟩
  refine State.viewTarget_wr_of_not_ram noHole ?_
  rw [State.route_kbdZone_wr hm from3800 to3BFF]
  decide

include lowBank in
/-- A view of the hole ends with it, at 0x3B00. -/
theorem State.viewLen_hole (card : s.straps.selectorEnabled = true) (to3AFF : a ≤ 0x3AFF) :
    s.viewLen .wr ⟨.ram, a⟩ a = 0x3B00 - a := by
  refine State.viewLen_eq (by omega) (fun i _ => ?_) fun continues => ?_
  · exact State.viewTarget_hole hm (by omega) lowBank card (by omega)
  · rw [State.ContinuesView, State.viewTarget_kbdZone_wr hm (by omega) (by omega) (by omega)] at continues
    cases continues

end keyboardZone

/-- Settles O29: the zone is a peripheral to reads, nothing to writes, and RAM to the write view of its low part. -/
theorem keyboardHoleIsAViewOnly : Obligations.KeyboardHoleIsAViewOnly := by
  unfold Obligations.KeyboardHoleIsAViewOnly
  intro s a v hm lowBank from3800 to3BFF
  refine ⟨?_, ?_, ?_⟩
  · exact exec_memwr_of_writeByte (State.writeByte_of_unmapped v (State.route_kbdZone_wr hm from3800 to3BFF))
  · have unreadable : (s.route a.toNat .rd).region ∉ readableRegions := by
      rw [State.route_kbdZone_rd hm from3800 to3BFF]; simp [readableRegions]
    exact exec_viewrd_of_none (State.viewTarget_rd_of_notMem unreadable)
  · split_ifs with hole
    · obtain ⟨card, to3AFF⟩ := hole
      rw [exec_viewwr_of_some (State.viewTarget_hole hm from3800 lowBank card to3AFF),
        State.viewLen_hole hm from3800 lowBank card to3AFF]
      rfl
    · exact exec_viewwr_of_none (State.viewTarget_kbdZone_wr hm from3800 hole to3BFF)

end Sys2Proof.Machine

/-! # The generic port rows (R231, R232)

Outside the ports with a row of their own the decoder answers the generic row; on each of them the generic row's chain
of tests stops at that port. -/

namespace Sys2Proof.Machine

theorem exec_iord (p : Byte) (s : State) : exec (.iord p) s = s.portRead p := rfl

theorem exec_iowr (p v : Byte) (s : State) : exec (.iowr p v) s = s.portWrite p v := rfl

theorem State.portRead_of_notMem (s : State) {p : Byte} (h : p ∉ readPorts) :
    s.portRead p = .next (s.reply .notMine) := by
  simp only [readPorts, List.mem_cons, List.not_mem_nil, or_false, not_or] at h
  simp only [State.portRead, h, false_and, if_false]

theorem State.portWrite_of_notMem (s : State) {p : Byte} (v : Byte) (h : p ∉ writePorts) :
    s.portWrite p v = s.done := by
  simp only [writePorts, List.mem_cons, List.not_mem_nil, or_false, not_or] at h
  simp only [State.portWrite, h, false_and, if_false]

/-- R231: a port read runs as the row of its port. -/
theorem exec_decodeIord (p : Byte) (s : State) : exec (decodeIord p) s = exec (.iord p) s := by
  by_cases h : p ∈ readPorts
  · simp only [readPorts, List.mem_cons, List.not_mem_nil, or_false] at h
    rcases h with rfl | rfl | rfl | rfl | rfl | rfl | rfl | rfl | rfl | rfl | rfl | rfl <;> rfl
  · rw [decodeIord_of_notMem h]

/-- R232: a port write runs as the row of its port. -/
theorem exec_decodeIowr (p v : Byte) (s : State) : exec (decodeIowr p v) s = exec (.iowr p v) s := by
  by_cases h : p ∈ writePorts
  · simp only [writePorts, List.mem_cons, List.not_mem_nil, or_false] at h
    rcases h with rfl | rfl | rfl | rfl | rfl | rfl | rfl | rfl | rfl | rfl | rfl | rfl | rfl | rfl | rfl <;> rfl
  · rw [decodeIowr_of_notMem v h]

/-- Settles O40: port by port where there is a row, and by the end of the chain of tests elsewhere. -/
theorem genericPortCyclesAgree : Obligations.GenericPortCyclesAgree := by
  unfold Obligations.GenericPortCyclesAgree
  intro s p v
  exact ⟨exec_decodeIord p s, exec_decodeIowr p v s, fun noRow => (exec_iord p s).trans (s.portRead_of_notMem noRow),
    fun noRow => (exec_iowr p v s).trans (s.portWrite_of_notMem v noRow)⟩

end Sys2Proof.Machine

/-! # The controller's registers through their ports (44_hdc_registers.md)

A register read is an answer and a register write an update; what is left is that a field cut out of a register or put
into one is the arithmetic of R259 to R261. The WP read runs the open step four times: `AfterTurns` says what the turns
taken so far have done, each being the open step of the first state because no turn touches another slot (R251). -/

namespace Sys2Proof.Machine

/-! ### The registers' fields as numbers and masks (R112, R259, R260) -/

theorem cylLow_eq (cyl : BitVec 16) : cyl.extractLsb' 0 8 = BitVec.ofNat 8 (cyl.toNat % 256) := by
  apply BitVec.eq_of_toNat_eq
  simp

theorem cylHigh_eq (cyl : BitVec 16) : cyl.extractLsb' 8 8 = BitVec.ofNat 8 (cyl.toNat / 256) := by
  apply BitVec.eq_of_toNat_eq
  simp [Nat.shiftRight_eq_div_pow]

theorem sdhByte_eq (drive : BitVec 3) (head : BitVec 4) :
    sdhByte drive head = BitVec.ofNat 8 (drive.toNat % 4 * 8 + head.toNat % 8) := by
  revert drive head; decide

theorem cyl_eq_bytes (cyl : BitVec 16) : cyl = cyl.extractLsb' 8 8 ++ cyl.extractLsb' 0 8 := by
  rw [BitVec.extractLsb'_append_extractLsb'_eq_extractLsb' (by decide)]
  exact BitVec.extractLsb'_eq_self.symm

theorem append_and_highMask (hi lo : Byte) : (hi ++ lo) &&& 0xFF00#16 = hi ++ 0#8 := by
  have mask : 0xFF00#16 = BitVec.allOnes 8 ++ 0#8 := rfl
  rw [mask, BitVec.and_append, BitVec.and_allOnes, BitVec.and_zero]

theorem append_and_lowMask (hi lo : Byte) : (hi ++ lo) &&& 0x00FF#16 = 0#8 ++ lo := by
  have mask : 0x00FF#16 = 0#8 ++ BitVec.allOnes 8 := rfl
  rw [mask, BitVec.and_append, BitVec.and_allOnes, BitVec.and_zero]

theorem zeroExtend_eq_append (v : Byte) : v.zeroExtend 16 = 0#8 ++ v := BitVec.setWidth_eq_append (by decide)

theorem zeroExtend_shiftLeft_eq_append (v : Byte) : v.zeroExtend 16 <<< 8 = v ++ 0#8 := by
  rw [BitVec.shiftLeft_eq_concat_of_lt (by decide), zeroExtend_eq_append]
  exact congrArg (· ++ 0#8) BitVec.extractLsb'_append_eq_right

/-- Storing the low byte of the cylinder keeps the high byte (R259). -/
theorem cylWithLow_eq (cyl : BitVec 16) (v : Byte) :
    cyl.extractLsb' 8 8 ++ v = (cyl &&& 0xFF00#16) ||| v.zeroExtend 16 := by
  conv_rhs => rw [cyl_eq_bytes cyl, append_and_highMask, zeroExtend_eq_append, BitVec.or_append]
  rw [BitVec.or_zero, BitVec.zero_or]

/-- Storing the high byte of the cylinder keeps the low byte (R260). -/
theorem cylWithHigh_eq (cyl : BitVec 16) (v : Byte) :
    v ++ cyl.extractLsb' 0 8 = (v.zeroExtend 16 <<< 8) ||| (cyl &&& 0x00FF#16) := by
  conv_rhs => rw [cyl_eq_bytes cyl, append_and_lowMask, zeroExtend_shiftLeft_eq_append, BitVec.or_append]
  rw [BitVec.or_zero, BitVec.zero_or]

theorem sdhDrive_eq (v : Byte) : sdhDrive v = (v.extractLsb' 3 2).zeroExtend 3 :=
  (BitVec.setWidth_eq_append (by decide)).symm

theorem sdhHead_eq (v : Byte) : sdhHead v = (v.extractLsb' 0 3).zeroExtend 4 :=
  (BitVec.setWidth_eq_append (by decide)).symm

/-! ### The reads without side effect and the writes (R252, R253, R256 to R263) -/

/-- Settles O41: each read answers its register, the cylinder's bytes and the drive-head byte being numbers. -/
theorem hdcRegisterReads : Obligations.HdcRegisterReads := by
  unfold Obligations.HdcRegisterReads
  intro s
  refine ⟨rfl, rfl, rfl, rfl, rfl, ?_, ?_, ?_⟩
  · exact congrArg s.answerByte (cylLow_eq s.hdc.cyl)
  · exact congrArg s.answerByte (cylHigh_eq s.hdc.cyl)
  · exact congrArg s.answerByte (sdhByte_eq s.hdc.drive s.hdc.head)

theorem State.writeCyllo_eq (s : State) (v : Byte) :
    s.writeCyllo v = { s with hdc := { s.hdc with cyl := (s.hdc.cyl &&& 0xFF00#16) ||| v.zeroExtend 16 } } := by
  rw [← cylWithLow_eq]; rfl

theorem State.writeCylhi_eq (s : State) (v : Byte) :
    s.writeCylhi v = { s with hdc := { s.hdc with cyl := (v.zeroExtend 16 <<< 8) ||| (s.hdc.cyl &&& 0x00FF#16) } } := by
  rw [← cylWithHigh_eq]; rfl

/-- The fields are taken whatever the size bits are; they are reported when not 0 (R261). -/
theorem State.writeSdh_eq (s : State) (v : Byte) :
    s.writeSdh v =
      { s with
        hdc := { s.hdc with drive := (v.extractLsb' 3 2).zeroExtend 3, head := (v.extractLsb' 0 3).zeroExtend 4 }
        events := if v.extractLsb' 5 2 = 0#2 then s.events else .diag .cfgSizeBits :: s.events } := by
  rw [← sdhDrive_eq, ← sdhHead_eq]
  unfold State.writeSdh sdhSize
  split_ifs <;> rfl

theorem State.writeControl_of_clear (s : State) {v : Byte} (noReset : v.getLsbD 4 = false) :
    s.writeControl v = { s with hdc := { s.hdc with control := v } } := by
  simp only [State.writeControl, controlSoftReset, noReset, Bool.false_eq_true, if_false]

theorem State.writeControl_of_set (s : State) {v : Byte} (reset : v.getLsbD 4 = true) :
    s.writeControl v = { s.resetHdc with hdc := { s.resetHdc.hdc with control := v } } := by
  simp only [State.writeControl, controlSoftReset, reset, if_true]

/-- Settles O42: port by port; the control port by the soft-reset bit. -/
theorem hdcRegisterWrites : Obligations.HdcRegisterWrites := by
  unfold Obligations.HdcRegisterWrites
  intro s v
  refine ⟨rfl, rfl, rfl, rfl, ?_, ?_, ?_, fun noReset => ?_, fun reset => ?_⟩
  · exact congrArg State.done (s.writeCyllo_eq v)
  · exact congrArg State.done (s.writeCylhi_eq v)
  · exact congrArg State.done (s.writeSdh_eq v)
  · exact congrArg State.done (s.writeControl_of_clear noReset)
  · exact congrArg State.done (s.writeControl_of_set reset)

/-! ### The WP read (R251) -/

/-- The open step of a slot reads that slot's record and medium, the straps and the failing operations: two states that
agree on them give the same verdict and the same record (R324). -/
theorem State.openSlot_congr {s t : State} {d : SlotId} (slot : t.drv.get d = s.drv.get d)
    (medium : t.media.get d = s.media.get d) (straps : t.straps = s.straps) (faults : t.ioFaults = s.ioFaults) :
    (t.openSlot d).1 = (s.openSlot d).1 ∧ (t.openSlot d).2.drv.get d = (s.openSlot d).2.drv.get d := by
  have readable (img : Image) : t.headerReadable d img = s.headerReadable d img := by
    simp only [State.headerReadable, State.imageReadable, State.ioFault, faults]
  unfold State.openSlot
  simp only [slot, medium, straps, readable]
  split
  · exact ⟨rfl, slot⟩
  · split
    · simp
    · split
      · split <;> simp
      · simp

/-- The open step leaves every other slot's record. -/
theorem State.openSlot_drv_of_ne (s : State) {d e : SlotId} (h : d ≠ e) :
    (s.openSlot d).2.drv.get e = s.drv.get e := by
  obtain ⟨⟨x, hdc, events, frame⟩, -⟩ := s.openSlot_spec d
  rw [frame]
  exact PerDrive.get_set_ne s.drv x h

/-- `t` differs from `s` in the slots' records, the controller's registers and the events only, as after opening slots. -/
def OpenFrame (s t : State) : Prop := t = { s with drv := t.drv, hdc := t.hdc, events := t.events }

theorem OpenFrame.trans {s t u : State} (h : OpenFrame s t) (k : OpenFrame t u) : OpenFrame s u := by
  unfold OpenFrame at *; rw [k, h]

theorem State.openSlot_openFrame (s : State) (d : SlotId) : OpenFrame s (s.openSlot d).2 := by
  obtain ⟨⟨x, hdc, events, frame⟩, -⟩ := s.openSlot_spec d
  rw [frame]; rfl

/-- The WP port's value when the slots `ds` have had their turn (R251), given which slots are write-protected. -/
def wpByte (writeprot : SlotId → Bool) : List SlotId → Byte
  | [] => 0x00#8
  | d :: ds => if writeprot d then wpByte writeprot ds ||| wpBit d else wpByte writeprot ds

/-- The loop's value and state after the turns of the slots `ds`, the last one first. -/
structure AfterTurns (s : State) (ds : List SlotId) (acc : Byte × State) : Prop where
  value : acc.1 = wpByte (fun d => ((s.openSlot d).2.drv.get d).writeprot) ds
  frame : OpenFrame s acc.2
  opened : ∀ d ∈ ds, acc.2.drv.get d = (s.openSlot d).2.drv.get d
  waiting : ∀ d ∉ ds, acc.2.drv.get d = s.drv.get d
  clean : (∀ d ∈ ds, (s.openSlot d).1 = true) → acc.2.hdc = s.hdc ∧ acc.2.events = s.events
  latched : (∃ d ∈ ds, (s.openSlot d).1 = false) →
    acc.2.hdc = { s.hdc with status := stError, error := errNotFound }

theorem AfterTurns.start (s : State) : AfterTurns s [] (0x00#8, s) :=
  ⟨rfl, rfl, nofun, fun _ _ => rfl, fun _ => ⟨rfl, rfl⟩, nofun⟩

/-- One more turn: the slot is still as in the first state, so its turn is the first state's open step; a success moves
neither registers nor reports, and a failure latches the error whatever was latched before. -/
theorem AfterTurns.turn {s : State} {ds : List SlotId} {acc : Byte × State} {d : SlotId} (h : AfterTurns s ds acc)
    (new : d ∉ ds) : AfterTurns s (d :: ds) (wpStep acc d) := by
  obtain ⟨verdict, record⟩ : (acc.2.openSlot d).1 = (s.openSlot d).1
      ∧ (acc.2.openSlot d).2.drv.get d = (s.openSlot d).2.drv.get d :=
    State.openSlot_congr (h.waiting d new) (by rw [h.frame]) (by rw [h.frame]) (by rw [h.frame])
  obtain ⟨-, -, success, failure⟩ := acc.2.openSlot_spec d
  rw [verdict] at success failure
  constructor
  case value => simp only [wpStep, wpByte, record, h.value]
  case frame => exact h.frame.trans (acc.2.openSlot_openFrame d)
  case opened =>
    intro e he
    by_cases same : d = e
    · exact same ▸ record
    · exact (acc.2.openSlot_drv_of_ne same).trans (h.opened e (List.mem_of_ne_of_mem (Ne.symm same) he))
  case waiting =>
    intro e he
    obtain ⟨other, waits⟩ := List.ne_and_not_mem_of_not_mem_cons he
    exact (acc.2.openSlot_drv_of_ne (Ne.symm other)).trans (h.waiting e waits)
  case clean =>
    intro allOpen
    obtain ⟨opens, earlier⟩ := List.forall_mem_cons.1 allOpen
    obtain ⟨hdcKept, eventsKept⟩ := success opens
    obtain ⟨hdcClean, eventsClean⟩ := h.clean earlier
    exact ⟨hdcKept.trans hdcClean, eventsKept.trans eventsClean⟩
  case latched =>
    intro someFails
    show (acc.2.openSlot d).2.hdc = _
    cases opens : (s.openSlot d).1 with
    | true =>
      obtain ⟨e, he, fails⟩ := someFails
      have earlier : e ∈ ds := (List.mem_cons.1 he).resolve_left fun same => by rw [same, opens] at fails; cases fails
      rw [(success opens).1, h.latched ⟨e, earlier, fails⟩]
    | false =>
      rw [(failure opens).1]
      by_cases before : ∃ e ∈ ds, (s.openSlot e).1 = false
      · rw [h.latched before]
      · rw [(h.clean fun e he => by simpa using mt (⟨e, he, ·⟩) before).1]

/-- The four turns of the WP read (R251). -/
theorem State.readWp_afterTurns (s : State) : AfterTurns s [.s3, .s2, .s1, .s0] s.readWp :=
  ((((AfterTurns.start s).turn (d := .s0) (by decide)).turn (d := .s1) (by decide)).turn (d := .s2) (by decide)).turn
    (d := .s3) (by decide)

theorem mem_allSlots (d : SlotId) : d ∈ [SlotId.s3, .s2, .s1, .s0] := by cases d <;> decide

/-- Bit `7 - d` is slot `d`'s write protection, and bits 3:0 are zero (R108). -/
theorem wpByte_bits (writeprot : SlotId → Bool) :
    let b := wpByte writeprot [.s3, .s2, .s1, .s0]
    b.getLsbD 7 = writeprot .s0 ∧ b.getLsbD 6 = writeprot .s1 ∧ b.getLsbD 5 = writeprot .s2 ∧ b.getLsbD 4 = writeprot .s3
      ∧ b.extractLsb' 0 4 = 0#4 := by
  simp only [wpByte]
  generalize writeprot .s0 = w0
  generalize writeprot .s1 = w1
  generalize writeprot .s2 = w2
  generalize writeprot .s3 = w3
  revert w0 w1 w2 w3
  decide

/-- Settles O43: the loop's value, slots and registers after all four turns, read off `AfterTurns`. -/
theorem writeProtectRead : Obligations.WriteProtectRead := by
  unfold Obligations.WriteProtectRead
  intro s
  have turns := s.readWp_afterTurns
  have slots (d : SlotId) : s.readWp.2.drv.get d = (s.openSlot d).2.drv.get d := turns.opened d (mem_allSlots d)
  obtain ⟨bit7, bit6, bit5, bit4, low⟩ := wpByte_bits fun d => ((s.openSlot d).2.drv.get d).writeprot
  rw [← turns.value] at bit7 bit6 bit5 bit4 low
  refine ⟨s.readWp.2.reply (.byte s.readWp.1), s.readWp.1, rfl, rfl, ?_, ?_, ?_, ?_, low, slots, fun allOpen => ?_,
    fun ⟨d, fails⟩ => ?_, ?_⟩
  · exact bit7.trans (congrArg Slot.writeprot (slots .s0).symm)
  · exact bit6.trans (congrArg Slot.writeprot (slots .s1).symm)
  · exact bit5.trans (congrArg Slot.writeprot (slots .s2).symm)
  · exact bit4.trans (congrArg Slot.writeprot (slots .s3).symm)
  · exact turns.clean fun d _ => allOpen d
  · exact turns.latched ⟨d, mem_allSlots d, fails⟩
  · exact congrArg (State.reply · (.byte s.readWp.1)) turns.frame

end Sys2Proof.Machine

/-! # The controller's commands and the data port (45_hdc_commands.md)

Three layers: the commands that locate nothing are equations; READ, WRITE, VERIFY and SEEK are one function of the
status they leave, `State.runLocating`, with one equation per outcome of the open step and the range check; a data write is
`State.stored`, with an error exactly when `State.StoreOk` does not hold. The sector round trip runs on these: a
`Transfer` is a command in progress `k` bytes past the position of its sector, and each data access moves it to
`k + 1`. -/

namespace Sys2Proof.Machine
open Sys2Proof.Safety

/-! ### The commands that locate nothing (R282, R284, R287, R288, R298) -/

theorem State.cmdDma_eq (s : State) (v : Byte) :
    s.cmdDma v =
      .next
        { s with
          hdc := { s.hdc with bytesdone := 0, command := v, status := 0x01#8, error := 0x04#8 }
          events := .diag .protoDma :: s.events
          answer := .nothing } := by
  simp only [State.cmdDma, State.startCommand, State.report, State.emit, State.setError, State.setStatus, State.reply]

theorem State.cmdInit_eq (s : State) (v : Byte) :
    s.cmdInit v =
      .next
        { s with
          hdc := { s.hdc with bytesdone := 0, command := v, status := 0x40#8, error := 0x00#8 }
          events := .diag .protoInit :: s.events
          answer := .nothing } := by
  simp only [State.cmdInit, State.startCommand, State.report, State.emit, State.setReady, State.setStatus, State.reply]

theorem State.formatParamsOk_iff (s : State) :
    s.formatParamsOk = true ↔ s.hdc.seccnt.toNat = s.straps.sectorsPerTrack ∧ s.hdc.secnum = 0x0F#8 := by
  simp only [State.formatParamsOk, Bool.and_eq_true, decide_eq_true_eq]

/-- FORMAT reports parameters that are not the protocol's constants and completes all the same (R287). -/
theorem State.cmdFormat_eq (s : State) (v : Byte) :
    s.cmdFormat v =
      .next
        { s with
          hdc := { s.hdc with bytesdone := 0, command := v, status := 0x40#8, error := 0x00#8 }
          events :=
            if s.hdc.seccnt.toNat = s.straps.sectorsPerTrack ∧ s.hdc.secnum = 0x0F#8 then s.events
            else .diag .cfgFormatParams :: s.events
          answer := .nothing } := by
  have params : (s.startCommand v).formatParamsOk = true ↔ _ := s.formatParamsOk_iff
  simp only [State.cmdFormat, params]
  split_ifs <;>
    simp only [State.startCommand, State.report, State.emit, State.setReady, State.setStatus, State.reply]

/-- Settles O45: row by row. -/
theorem commandsWithoutLocate : Obligations.CommandsWithoutLocate := by
  unfold Obligations.CommandsWithoutLocate
  intro s low low3 low7
  exact ⟨rfl, s.cmdDma_eq _, s.cmdDma_eq _, s.cmdFormat_eq _, s.cmdInit_eq _, rfl, rfl⟩

/-! ### READ, WRITE, VERIFY and SEEK (R290 to R292) -/

theorem State.onSelectedSlot_of_some {s : State} {d : SlotId} (k : SlotId → State)
    (drive : slotOfDrive s.hdc.drive = some d) : s.onSelectedSlot k = .next ((k d).reply .nothing) := by
  simp only [State.onSelectedSlot, drive]

/-- A command that locates a sector and then leaves this status without error. -/
def State.runLocating (s : State) (status v : Byte) : Host.Outcome State Fault Refusal :=
  (s.startCommand v).onSelectedSlot ((s.startCommand v).locateThen fun t => t.setStatus status errNone)

theorem State.cmdTransfer_eq (s : State) (v : Byte) : s.cmdTransfer v = s.runLocating stReadyDrq v := rfl

theorem State.cmdLocate_eq (s : State) (v : Byte) : s.cmdLocate v = s.runLocating stReady v := rfl

theorem exec_read (low : BitVec 3) (s : State) : exec (.read low) s = s.runLocating stReadyDrq (4#5 ++ low) :=
  s.cmdTransfer_eq _

theorem exec_write (low : BitVec 3) (s : State) : exec (.write low) s = s.runLocating stReadyDrq (6#5 ++ low) :=
  s.cmdTransfer_eq _

theorem exec_verify (low : BitVec 4) (s : State) : exec (.verify low) s = s.runLocating stReady (4#4 ++ low) :=
  s.cmdLocate_eq _

theorem exec_seek (low : BitVec 4) (s : State) : exec (.seek low) s = s.runLocating stReady (7#4 ++ low) :=
  s.cmdLocate_eq _

theorem State.sectorInRange_iff (s : State) (x : Slot) :
    s.sectorInRange x = true ↔ s.hdc.head.toNat < x.heads ∧ s.hdc.secnum.toNat < x.sectorsPerTrack := by
  simp only [State.sectorInRange, Bool.and_eq_true, decide_eq_true_eq]

/-- A successful open step leaves the registers that the range check looks at. -/
theorem State.sectorInRange_openSlot_iff {s : State} {d : SlotId} (opens : (s.openSlot d).1 = true) (x : Slot) :
    (s.openSlot d).2.sectorInRange x = true
      ↔ s.hdc.head.toNat < x.heads ∧ s.hdc.secnum.toNat < x.sectorsPerTrack := by
  obtain ⟨-, -, success, -⟩ := s.openSlot_spec d
  rw [State.sectorInRange_iff, (success opens).1]

section locateThen
variable {s : State} {d : SlotId} (done : State → State)

theorem State.locateThen_of_openFails (fails : (s.openSlot d).1 = false) :
    s.locateThen done d = (s.openSlot d).2 := by
  simp [State.locateThen, State.locate, fails]

theorem State.locateThen_of_outOfRange (opens : (s.openSlot d).1 = true)
    (range : ((s.openSlot d).2.drv.get d).heads ≤ s.hdc.head.toNat
      ∨ ((s.openSlot d).2.drv.get d).sectorsPerTrack ≤ s.hdc.secnum.toNat) :
    s.locateThen done d = (s.openSlot d).2.setError errNotFound := by
  have outside : ¬(s.openSlot d).2.sectorInRange ((s.openSlot d).2.drv.get d) = true := by
    rw [State.sectorInRange_openSlot_iff opens]; omega
  simp [State.locateThen, State.locate, opens, outside]

theorem State.locateThen_of_inRange (opens : (s.openSlot d).1 = true)
    (head : s.hdc.head.toNat < ((s.openSlot d).2.drv.get d).heads)
    (secnum : s.hdc.secnum.toNat < ((s.openSlot d).2.drv.get d).sectorsPerTrack) :
    s.locateThen done d =
      done ((s.openSlot d).2.setFpos d
        (sectorPos s.hdc.cyl.toNat s.hdc.head.toNat s.hdc.secnum.toNat ((s.openSlot d).2.drv.get d).heads
          ((s.openSlot d).2.drv.get d).sectorsPerTrack)) := by
  have inside := (State.sectorInRange_openSlot_iff opens _).2 ⟨head, secnum⟩
  obtain ⟨-, -, success, -⟩ := s.openSlot_spec d
  simp [State.locateThen, State.locate, opens, inside, (success opens).1]

end locateThen

/-- The rows of READ, WRITE, VERIFY and SEEK with their command bytes and the status they leave. -/
theorem exec_of_mem_locatingRows {low : BitVec 4} {low3 : BitVec 3} {i : Instr} {v st : Byte}
    (h : (i, v, st) ∈ [(Instr.read low3, (4#5 ++ low3 : Byte), 0x48#8), (.write low3, 6#5 ++ low3, 0x48#8),
      (.verify low, 4#4 ++ low, 0x40#8), (.seek low, 7#4 ++ low, 0x40#8)]) (s : State) :
    exec i s = s.runLocating st v := by
  simp only [List.mem_cons, List.not_mem_nil, or_false, Prod.mk.injEq] at h
  rcases h with ⟨rfl, rfl, rfl⟩ | ⟨rfl, rfl, rfl⟩ | ⟨rfl, rfl, rfl⟩ | ⟨rfl, rfl, rfl⟩
  · exact exec_read low3 s
  · exact exec_write low3 s
  · exact exec_verify low s
  · exact exec_seek low s

/-- The command completes with the result of `State.locateThen` on the selected slot. -/
theorem State.runLocating_of_some {s : State} {d : SlotId} (st v : Byte) (drive : slotOfDrive s.hdc.drive = some d) :
    s.runLocating st v =
      ((s.startCommand v).locateThen (fun t => t.setStatus st errNone) d).done :=
  State.onSelectedSlot_of_some (s := s.startCommand v) _ drive

/-- Settles O46: the four rows are `State.runLocating`, and its clauses the outcomes of `State.locateThen` after the
command's start. -/
theorem locatingCommands : Obligations.LocatingCommands := by
  unfold Obligations.LocatingCommands
  intro s d low low3 i v st drive row
  have runs : exec i s = _ := (exec_of_mem_locatingRows row s).trans (State.runLocating_of_some st v drive)
  rw [runs]
  refine ⟨fun fails => ?_, fun opens range => ?_, fun opens head secnum => ?_⟩
  · obtain ⟨-, -, -, failure⟩ := (s.startCommand v).openSlot_spec d
    obtain ⟨latched, -⟩ := failure fails
    exact ⟨congrArg State.done (State.locateThen_of_openFails _ fails),
      congrArg Hdc.status latched, congrArg Hdc.error latched⟩
  · exact congrArg State.done
      (State.locateThen_of_outOfRange (s := s.startCommand v) _ opens range)
  · exact congrArg State.done
      (State.locateThen_of_inRange (s := s.startCommand v) _ opens head secnum)

/-! ### The command port (R280) -/

theorem commandByte_fields (v : Byte) : v = v.extractLsb' 4 4 ++ v.extractLsb' 3 1 ++ v.extractLsb' 0 3 := by
  rw [BitVec.extractLsb'_append_extractLsb'_eq_extractLsb' (by decide),
    BitVec.extractLsb'_append_extractLsb'_eq_extractLsb' (by decide)]
  exact BitVec.extractLsb'_eq_self.symm

theorem commandOpcode_fields (opcode : BitVec 4) (dma : BitVec 1) (low : BitVec 3) :
    commandOpcode (opcode ++ dma ++ low) = opcode := by
  rw [commandOpcode, BitVec.extractLsb'_append_eq_of_le (by decide)]
  exact BitVec.extractLsb'_append_eq_left

theorem commandDma_fields (opcode : BitVec 4) (dma : BitVec 1) (low : BitVec 3) :
    commandDma (opcode ++ dma ++ low) = dma.getLsbD 0 := by
  rw [commandDma, BitVec.getLsbD_append, BitVec.getLsbD_append]
  rfl

/-- The opcode is one of the eight with a row of its own, or from 8 on (R115). -/
theorem opcode_cases (opcode : BitVec 4) :
    opcode = 0#4 ∨ opcode = 1#4 ∨ opcode = 2#4 ∨ opcode = 3#4 ∨ opcode = 4#4 ∨ opcode = 5#4 ∨ opcode = 6#4
      ∨ opcode = 7#4 ∨ 8 ≤ opcode.toNat := by
  revert opcode; decide

theorem opcode_eq_one_append : ∀ opcode : BitVec 4, 8 ≤ opcode.toNat → opcode = 1#1 ++ opcode.extractLsb' 0 3 := by
  decide

/-- A command byte runs the command of the row its fields are read as, the byte being rebuilt from them. -/
theorem State.runCommand_fields (s : State) (opcode : BitVec 4) (dma : BitVec 1) (low : BitVec 3) :
    s.runCommand (opcode ++ dma ++ low) = exec (decodeCommandFields opcode dma low) s := by
  have regroup : (opcode ++ dma ++ low : Byte) = opcode ++ (dma ++ low) := by
    rw [BitVec.append_assoc, BitVec.cast_eq]
  have flag : ∀ b : BitVec 1, b = 0#1 ∨ b = 1#1 := by decide
  rw [State.runCommand_opcode, commandOpcode_fields, commandDma_fields]
  rcases opcode_cases opcode with rfl | rfl | rfl | rfl | rfl | rfl | rfl | rfl | unknown
  · exact congrArg s.cmdUnknown regroup
  · exact congrArg s.cmdRestore regroup
  · rcases flag dma with rfl | rfl <;> rfl
  · rcases flag dma with rfl | rfl <;> rfl
  · exact congrArg s.cmdLocate regroup
  · exact congrArg s.cmdFormat regroup
  · exact congrArg s.cmdInit regroup
  · exact congrArg s.cmdLocate regroup
  · have whole : (opcode ++ dma ++ low : Byte) = 1#1 ++ (opcode.extractLsb' 0 3 ++ dma ++ low) := by
      conv_lhs => rw [opcode_eq_one_append opcode unknown]
      simp only [BitVec.append_assoc, BitVec.cast_eq]
    rw [decodeCommandFields_unknown8F unknown]
    simp only [ne_lowNibbles_of_eight_le opcode unknown, false_or, if_false]
    exact congrArg s.cmdUnknown whole

theorem exec_iowrCommand (v : Byte) (s : State) : exec (.iowrCommand v) s = s.runCommand v := rfl

theorem exec_decodeCommandByte (v : Byte) (s : State) : exec (decodeCommandByte v) s = s.runCommand v := by
  conv_rhs => rw [commandByte_fields v]
  exact (s.runCommand_fields _ _ _).symm

/-- Locating leaves the registers but status and error, which tell the failure or the status asked for (R283, R286). -/
theorem State.locateThen_hdc (s : State) (d : SlotId) (st : Byte) :
    (s.locateThen (fun t => t.setStatus st errNone) d).hdc = { s.hdc with status := stError, error := errNotFound }
    ∨ (s.locateThen (fun t => t.setStatus st errNone) d).hdc = { s.hdc with status := st, error := errNone } := by
  obtain ⟨-, -, success, failure⟩ := s.openSlot_spec d
  unfold State.locateThen
  rcases s.locate_cases d with ⟨fails, e⟩ | ⟨opens, -, e⟩ | ⟨opens, -, e⟩ <;> rw [e]
  · exact .inl (failure fails).1
  · left
    show { (s.openSlot d).2.hdc with status := stError, error := errNotFound } = _
    rw [(success opens).1]
  · right
    show { (s.openSlot d).2.hdc with status := st, error := errNone } = _
    rw [(success opens).1]

/-- The outcome is a next state whose counter is cleared and whose command register holds `v`. -/
def Starts (v : Byte) (o : Host.Outcome State Fault Refusal) : Prop :=
  ∃ t, o = .next t ∧ t.hdc.bytesdone = 0 ∧ t.hdc.command = v

theorem State.runLocating_starts {s : State} {d : SlotId} (st v : Byte) (drive : slotOfDrive s.hdc.drive = some d) :
    Starts v (s.runLocating st v) := by
  refine ⟨_, State.runLocating_of_some st v drive, ?_⟩
  rw [State.reply_hdc]
  rcases (s.startCommand v).locateThen_hdc d st with e | e <;> rw [e] <;> exact ⟨rfl, rfl⟩

/-- Every command byte completes when the drive register names a slot, whatever its row (R280). -/
theorem State.runCommand_starts {s : State} {d : SlotId} (v : Byte) (drive : slotOfDrive s.hdc.drive = some d) :
    Starts v (s.runCommand v) := by
  rw [State.runCommand_opcode]
  split_ifs
  · exact ⟨_, rfl, rfl, rfl⟩
  · exact ⟨_, rfl, rfl, rfl⟩
  · exact State.runLocating_starts stReadyDrq v drive
  · exact State.runLocating_starts stReady v drive
  · exact ⟨_, s.cmdFormat_eq v, rfl, rfl⟩
  · exact ⟨_, rfl, rfl, rfl⟩
  · exact ⟨_, rfl, rfl, rfl⟩

/-- Settles O47: the port and the byte's row both run `State.runCommand`. -/
theorem commandPortRunsRow : Obligations.CommandPortRunsRow := by
  unfold Obligations.CommandPortRunsRow
  intro s v
  refine ⟨(exec_iowrCommand v s).trans (exec_decodeCommandByte v s).symm, fun named => ?_⟩
  obtain ⟨d, drive⟩ := slotOfDrive_isSome _ named
  exact State.runCommand_starts v drive

/-! ### The data-register read (R293, R294) -/

theorem exec_iordData (s : State) : exec .iordData s = s.readData := rfl

theorem State.readData_of_not_fetching {s : State} (h : ¬s.fetching = true) :
    s.readData = .next (s.reply (.byte s.hdc.data)) := if_neg h

theorem State.readData_of_fetching {s : State} {d : SlotId} (h : s.fetching = true)
    (drive : slotOfDrive s.hdc.drive = some d) :
    s.readData = .next ((s.fetchData d).reply (.byte (s.fetchData d).hdc.data)) := by
  simp only [State.readData, h, if_true, drive]

theorem State.imageReadable_iff (s : State) (d : SlotId) (img : Image) (pos : Nat) :
    s.imageReadable d img pos = true ↔ pos < img.len ∧ IoFaultAt.mk d .read pos ∉ s.ioFaults := by
  simp [State.imageReadable, State.ioFault]

theorem State.mediaRead_of_readable {s : State} {d : SlotId} {img : Image} {pos : Nat}
    (isOpen : (s.drv.get d).isOpen = true) (medium : s.media.get d = some img) (inside : pos < img.len)
    (noFault : IoFaultAt.mk d .read pos ∉ s.ioFaults) : s.mediaRead d pos = some (img.byteAt d pos) := by
  simp only [State.mediaRead, isOpen, medium, (s.imageReadable_iff d img pos).2 ⟨inside, noFault⟩, if_true]

theorem State.mediaRead_of_fails {s : State} {d : SlotId} {pos : Nat}
    (fails : (s.drv.get d).isOpen = false ∨ IoFaultAt.mk d .read pos ∈ s.ioFaults
      ∨ ∀ img, s.media.get d = some img → img.len ≤ pos) : s.mediaRead d pos = none := by
  unfold State.mediaRead
  split
  · rename_i isOpen
    split
    · rfl
    · rename_i img medium
      refine if_neg fun readable => ?_
      obtain ⟨inside, noFault⟩ := (s.imageReadable_iff d img pos).1 readable
      rcases fails with closed | fault | short
      · exact absurd (isOpen.symm.trans closed) (by decide)
      · exact noFault fault
      · exact absurd (short img medium) (Nat.not_le.2 inside)
  · rfl

theorem State.fetchData_of_some {s : State} {d : SlotId} {b : Byte}
    (h : s.mediaRead d (s.drv.get d).fpos = some b) : s.fetchData d = (s.setData b).advance d := by
  simp only [State.fetchData, h]

theorem State.fetchData_of_none {s : State} {d : SlotId} (h : s.mediaRead d (s.drv.get d).fpos = none) :
    s.fetchData d = ((s.setData (Config.failedFetchByte s.draws)).draw).advance d := by
  simp only [State.fetchData, h]

/-- Settles O48: by the test of R293, then by what the fetch finds on the medium. -/
theorem dataReadResult : Obligations.DataReadResult := by
  unfold Obligations.DataReadResult
  intro s d
  refine ⟨fun idle => State.readData_of_not_fetching (mt s.fetching_iff.1 idle), fun active drive => ?_⟩
  rw [exec_iordData, State.readData_of_fetching (s.fetching_iff.2 active) drive]
  refine ⟨fun img isOpen medium inside noFault => ?_, fun fails => ?_⟩
  · rw [State.fetchData_of_some (State.mediaRead_of_readable isOpen medium inside noFault), State.advance_eq]
    rfl
  · rw [State.fetchData_of_none (State.mediaRead_of_fails fails), State.advance_eq]
    exact ⟨_, _, rfl⟩

/-! ### The data-register write (R295 to R297) -/

theorem State.writeData_of_not_storing {s : State} (v : Byte) (h : ¬s.storing = true) :
    s.writeData v = (s.setData v).done := if_neg h

theorem State.writeData_of_storing {s : State} {d : SlotId} (v : Byte) (h : s.storing = true)
    (drive : slotOfDrive s.hdc.drive = some d) : s.writeData v = ((s.setData v).storeData d v).done :=
  (if_pos h).trans (State.onSelectedSlot_of_some (s := s.setData v) _ drive)

theorem State.quirkApplies_iff (s : State) :
    s.quirkApplies = true
      ↔ s.hdc.cyl = 0#16 ∧ s.hdc.head = 0#4 ∧ s.hdc.secnum = 0#8 ∧ s.hdc.bytesdone = 2 := by
  simp only [State.quirkApplies, Bool.and_eq_true, decide_eq_true_eq, and_assoc]

/-- The medium of slot `d` takes a byte at `pos`: the slot is open on a writable image and the write does not fail
(R322). -/
def State.Takes (s : State) (d : SlotId) (pos : Nat) : Prop :=
  (s.drv.get d).isOpen = true ∧ IoFaultAt.mk d .write pos ∉ s.ioFaults
    ∧ ∃ img, s.media.get d = some img ∧ img.access = .rw

theorem State.mediaWrite_of_takes {s : State} {d : SlotId} {pos : Nat} {img : Image} (v : Byte) (h : s.Takes d pos)
    (medium : s.media.get d = some img) : s.mediaWrite d pos v = (true, s.setImage d (img.put pos v)) := by
  obtain ⟨isOpen, noFault, img', medium', writable⟩ := h
  obtain rfl : img' = img := Option.some.inj (medium'.symm.trans medium)
  simp [State.mediaWrite, isOpen, medium, writable, State.ioFault, noFault]

theorem State.mediaWrite_of_not_takes {s : State} {d : SlotId} {pos : Nat} (v : Byte) (h : ¬s.Takes d pos) :
    s.mediaWrite d pos v = (false, s) := by
  rcases s.mediaWrite_cases d pos v with e | ⟨img, isOpen, medium, writable, noFault, -⟩
  · exact e
  · exact absurd ⟨isOpen, of_decide_eq_false noFault, img, medium, writable⟩ h

theorem State.mediaWrite_fst_iff (s : State) (d : SlotId) (pos : Nat) (v : Byte) :
    (s.mediaWrite d pos v).1 = true ↔ s.Takes d pos := by
  by_cases h : s.Takes d pos
  · obtain ⟨-, -, img, medium, -⟩ := id h
    simp [State.mediaWrite_of_takes v h medium, h]
  · simp [State.mediaWrite_of_not_takes v h, h]

/-- A byte write moves the medium of its slot only. -/
theorem State.mediaWrite_media (s : State) (d : SlotId) (pos : Nat) (v : Byte) :
    (s.mediaWrite d pos v).2 = { s with media := (s.mediaWrite d pos v).2.media } := by
  rcases s.mediaWrite_cases d pos v with e | ⟨img, -, -, -, -, e⟩
  · rw [e]
  · rw [e]; rfl

/-- A byte write leaves the slot's medium as writable as it was. -/
theorem State.mediaWrite_takes_iff (s : State) (d : SlotId) (pos q : Nat) (v : Byte) :
    (s.mediaWrite d pos v).2.Takes d q ↔ s.Takes d q := by
  rcases s.mediaWrite_cases d pos v with e | ⟨img, -, medium, -, -, e⟩
  · rw [e]
  · rw [e]; simp [State.Takes, medium, Image.put]

theorem State.quirkWrite_of_applies {s : State} (d : SlotId) (v : Byte) (h : s.quirkApplies = true) :
    s.quirkWrite d v = s.mediaWrite d 31 v := if_pos h

theorem State.quirkWrite_of_not_applies {s : State} (d : SlotId) (v : Byte) (h : ¬s.quirkApplies = true) :
    s.quirkWrite d v = (true, s) := if_neg h

theorem State.quirkWrite_fst_iff (s : State) (d : SlotId) (v : Byte) :
    (s.quirkWrite d v).1 = true ↔ (s.quirkApplies = true → s.Takes d 31) := by
  by_cases h : s.quirkApplies = true
  · simp [State.quirkWrite_of_applies d v h, State.mediaWrite_fst_iff, h]
  · simp [State.quirkWrite_of_not_applies d v h, h]

theorem State.quirkWrite_media (s : State) (d : SlotId) (v : Byte) :
    (s.quirkWrite d v).2 = { s with media := (s.quirkWrite d v).2.media } := by
  unfold State.quirkWrite
  split
  · exact s.mediaWrite_media d _ v
  · rfl

theorem State.quirkWrite_takes_iff (s : State) (d : SlotId) (q : Nat) (v : Byte) :
    (s.quirkWrite d v).2.Takes d q ↔ s.Takes d q := by
  unfold State.quirkWrite
  split
  · exact s.mediaWrite_takes_iff d _ q v
  · rfl

/-- Every media operation of one data write succeeds: the quirk's copy where the quirk applies, the byte, and after the
last byte the flush (R295 to R297). -/
structure State.StoreOk (s : State) (d : SlotId) : Prop where
  copy : s.quirkApplies = true → s.Takes d 31
  byte : s.Takes d (s.drv.get d).fpos
  flush : s.hdc.bytesdone = 255 → (s.drv.get d).isOpen = true ∧ IoFaultAt.mk d .flush 0 ∉ s.ioFaults

/-- The media after one data write: the copy, then the byte. -/
def State.storedMedia (s : State) (d : SlotId) (v : Byte) : PerDrive (Option Image) :=
  ((s.quirkWrite d v).2.mediaWrite d (s.drv.get d).fpos v).2.media

/-- The state after one data write, but for the error of a failure. -/
def State.stored (s : State) (d : SlotId) (v : Byte) : State :=
  State.advance { s with media := s.storedMedia d v } d

theorem State.stored_eq (s : State) (d : SlotId) (v : Byte) :
    s.stored d v =
      { s with
        media := s.storedMedia d v
        drv := if (s.drv.get d).isOpen then s.drv.set d { s.drv.get d with fpos := (s.drv.get d).fpos + 1 } else s.drv
        hdc := { s.hdc with bytesdone := s.hdc.bytesdone + 1 } } :=
  State.advance_eq _ d

theorem State.stored_isOpen (s : State) (d : SlotId) (v : Byte) :
    ((s.stored d v).drv.get d).isOpen = (s.drv.get d).isOpen := by
  rw [State.stored_eq]
  by_cases isOpen : (s.drv.get d).isOpen = true <;> simp [isOpen]

theorem State.mediaFlush_stored_iff (s : State) (d : SlotId) (v : Byte) :
    (s.stored d v).mediaFlush d = true ↔ (s.drv.get d).isOpen = true ∧ IoFaultAt.mk d .flush 0 ∉ s.ioFaults := by
  have faults : (s.stored d v).ioFaults = s.ioFaults := by rw [State.stored_eq]
  simp [State.mediaFlush, State.ioFault, State.stored_isOpen, faults]

/-- Everything a data write in a WRITE can do: the update, with `SetError(ERR_DATA)` exactly when one of its media
operations fails (R296). -/
theorem State.storeData_cases (s : State) (d : SlotId) (v : Byte) :
    (s.StoreOk d ∧ s.storeData d v = s.stored d v)
      ∨ (¬s.StoreOk d ∧ s.storeData d v = (s.stored d v).setError errData) := by
  have slots : (s.quirkWrite d v).2.drv = s.drv := by rw [State.quirkWrite_media]
  have byte : ((s.quirkWrite d v).2.mediaWrite d (s.drv.get d).fpos v).1 = true ↔ s.Takes d (s.drv.get d).fpos := by
    rw [State.mediaWrite_fst_iff, State.quirkWrite_takes_iff]
  have update : ((s.quirkWrite d v).2.mediaWrite d (s.drv.get d).fpos v).2.advance d = s.stored d v := by
    rw [State.stored, State.storedMedia, State.mediaWrite_media, State.quirkWrite_media]
  have count : (s.stored d v).hdc.bytesdone = s.hdc.bytesdone + 1 := by rw [State.stored_eq]
  have verdict : ((s.quirkWrite d v).1 && ((s.quirkWrite d v).2.mediaWrite d (s.drv.get d).fpos v).1
      && (if (s.stored d v).hdc.bytesdone = Config.sectorSize then (s.stored d v).mediaFlush d else true)) = true
        ↔ s.StoreOk d := by
    rw [Bool.and_eq_true, Bool.and_eq_true, byte, State.quirkWrite_fst_iff, count]
    have last : s.hdc.bytesdone + 1 = Config.sectorSize ↔ s.hdc.bytesdone = 255 := Nat.add_right_cancel_iff (n := 1)
    simp only [last, ite_eq_right_iff, State.mediaFlush_stored_iff]
    exact ⟨fun ⟨⟨copy, byte⟩, flush⟩ => ⟨copy, byte, flush⟩, fun ⟨copy, byte, flush⟩ => ⟨⟨copy, byte⟩, flush⟩⟩
  unfold State.storeData
  simp only [slots, update]
  by_cases ok : s.StoreOk d
  · exact .inl ⟨ok, if_pos (verdict.2 ok)⟩
  · exact .inr ⟨ok, if_neg (mt verdict.1 ok)⟩

theorem State.takes_of_clean {s : State} {d : SlotId} {img : Image} (isOpen : (s.drv.get d).isOpen = true)
    (medium : s.media.get d = some img) (writable : img.access = .rw) (clean : NoFaultOn s d) (pos : Nat) :
    s.Takes d pos :=
  ⟨isOpen, fun fault => clean _ fault rfl, img, medium, writable⟩

theorem State.storeOk_of_clean {s : State} {d : SlotId} {img : Image} (isOpen : (s.drv.get d).isOpen = true)
    (medium : s.media.get d = some img) (writable : img.access = .rw) (clean : NoFaultOn s d) : s.StoreOk d where
  copy _ := State.takes_of_clean isOpen medium writable clean 31
  byte := State.takes_of_clean isOpen medium writable clean _
  flush _ := ⟨isOpen, fun fault => clean _ fault rfl⟩

theorem State.storeData_of_ok {s : State} {d : SlotId} (v : Byte) (ok : s.StoreOk d) :
    s.storeData d v = s.stored d v := by
  rcases s.storeData_cases d v with ⟨-, e⟩ | ⟨fails, -⟩
  · exact e
  · exact absurd ok fails

theorem State.storeData_of_fails {s : State} {d : SlotId} (v : Byte) (fails : ¬s.StoreOk d) :
    s.storeData d v = (s.stored d v).setError errData := by
  rcases s.storeData_cases d v with ⟨ok, -⟩ | ⟨-, e⟩
  · exact absurd ok fails
  · exact e

/-- The image a successful data write leaves: the quirk's copy at byte 31 (R297), then the byte at the position. -/
def Image.withStored (img : Image) (quirk : Bool) (pos : Nat) (v : Byte) : Image :=
  (if quirk then img.put 31 v else img).put pos v

theorem Image.withStored_access (img : Image) (quirk : Bool) (pos : Nat) (v : Byte) :
    (img.withStored quirk pos v).access = img.access := by
  cases quirk <;> rfl

theorem Image.withStored_len (img : Image) (quirk : Bool) (pos : Nat) (v : Byte) :
    (img.withStored quirk pos v).len = max (if quirk then max img.len 32 else img.len) (pos + 1) := by
  cases quirk <;> rfl

theorem Image.byteAt_withStored (img : Image) (d : SlotId) (quirk : Bool) (pos q : Nat) (v : Byte) :
    (img.withStored quirk pos v).byteAt d q =
      if q = pos then v else if quirk ∧ q = 31 then v else img.byteAt d q := by
  rw [Image.withStored, Image.byteAt_put]
  simp only [eq_comm (a := q)]
  cases quirk <;> simp [Image.byteAt_put]

theorem State.storedMedia_of_takes {s : State} {d : SlotId} {img : Image} (v : Byte) (takes : ∀ pos, s.Takes d pos)
    (medium : s.media.get d = some img) :
    s.storedMedia d v = s.media.set d (some (img.withStored s.quirkApplies (s.drv.get d).fpos v)) := by
  unfold State.storedMedia Image.withStored
  by_cases quirk : s.quirkApplies = true
  · rw [State.quirkWrite_of_applies d v quirk, State.mediaWrite_of_takes v (takes 31) medium,
      State.mediaWrite_of_takes (img := img.put 31 v) v]
    · simp [quirk]
    · have moved := (s.mediaWrite_takes_iff d 31 (s.drv.get d).fpos v).2 (takes _)
      rwa [State.mediaWrite_of_takes v (takes 31) medium] at moved
    · simp
  · rw [State.quirkWrite_of_not_applies d v quirk, State.mediaWrite_of_takes v (takes _) medium]
    simp [quirk]

/-- Where neither the copy nor the byte is written, no image changes. -/
theorem State.storedMedia_of_not_takes {s : State} {d : SlotId} (v : Byte) (byte : ¬s.Takes d (s.drv.get d).fpos)
    (copy : ¬(s.quirkApplies = true ∧ s.Takes d 31)) : s.storedMedia d v = s.media := by
  have unmoved : (s.quirkWrite d v).2 = s := by
    by_cases quirk : s.quirkApplies = true
    · rw [State.quirkWrite_of_applies d v quirk, State.mediaWrite_of_not_takes v fun takes => copy ⟨quirk, takes⟩]
    · rw [State.quirkWrite_of_not_applies d v quirk]
  rw [State.storedMedia, unmoved, State.mediaWrite_of_not_takes v byte]

/-- Settles O49: on a writable medium without failures every media operation of the write succeeds, and the image is
`Image.withStored`. -/
theorem dataWriteStores : Obligations.DataWriteStores := by
  unfold Obligations.DataWriteStores
  intro s d v img
  refine ⟨fun idle => State.writeData_of_not_storing v (mt s.storing_iff.1 idle),
    fun active drive isOpen medium writable clean => ?_⟩
  have ok : (s.setData v).StoreOk d := State.storeOk_of_clean isOpen medium writable clean
  have media : (s.setData v).storedMedia d v
      = s.media.set d (some (img.withStored s.quirkApplies (s.drv.get d).fpos v)) :=
    State.storedMedia_of_takes v (State.takes_of_clean isOpen medium writable clean) medium
  refine ⟨_, img.withStored s.quirkApplies (s.drv.get d).fpos v,
    State.writeData_of_storing v (s.storing_iff.2 active) drive, ?_, img.withStored_access .., ?_, fun pos => ?_⟩
  · rw [State.storeData_of_ok v ok, State.stored_eq, media]
    exact congrArg (fun drv => State.reply { s with media := _, drv := drv, hdc := _ } .nothing) (if_pos isOpen)
  · simp only [Image.withStored_len, State.quirkApplies_iff]
  · simp only [Image.byteAt_withStored, State.quirkApplies_iff]

/-- Settles O50: a failing media operation is what `State.StoreOk` excludes. -/
theorem dataWriteFailure : Obligations.DataWriteFailure := by
  unfold Obligations.DataWriteFailure
  intro s d v x takes quirk flushFails writing below drive failure
  have fails : ¬(s.setData v).StoreOk d := by
    rintro ⟨copy, byte, flush⟩
    rcases failure with noByte | ⟨applies, noCopy⟩ | ⟨last, noFlush⟩
    · exact noByte byte
    · exact noCopy (copy (s.quirkApplies_iff.2 applies))
    · obtain ⟨isOpen, flushes⟩ := flush last
      rcases noFlush with closed | fault
      · exact absurd (isOpen.symm.trans closed) (by decide)
      · exact flushes fault
  refine ⟨_, State.writeData_of_storing v (s.storing_iff.2 ⟨writing, below⟩) drive, ?_, fun noByte noCopy => ?_⟩
  · rw [State.storeData_of_fails v fails, State.stored_eq]
    rfl
  · rw [State.storeData_of_fails v fails, State.stored_eq]
    exact State.storedMedia_of_not_takes (s := s.setData v) v noByte
      fun ⟨applies, copied⟩ => noCopy ⟨s.quirkApplies_iff.1 applies, copied⟩

/-! ### Status and error after any operation (R299) -/

theorem SameStatus.of_hdc {s t : State} (h : t.hdc = s.hdc) : SameStatus s t := by
  rw [SameStatus, h]
  exact ⟨rfl, rfl⟩

/-- A command that locates fails as "not found" or leaves the status it asks for (R283, R286). -/
theorem State.runLocating_status (s : State) (st v : Byte) :
    NextHolds (fun t => StatusIs t stError errNotFound ∨ StatusIs t st errNone) (s.runLocating st v) :=
  State.onSelectedSlot_holds _ fun d => by
    simp only [StatusIs, State.reply_hdc]
    rcases (s.startCommand v).locateThen_hdc d st with e | e <;> rw [e] <;> simp

/-- The WP read latches "not found" when an open fails, and else leaves the registers (R251). -/
theorem State.readWp_status (s : State) : StatusIs s.readWp.2 stError errNotFound ∨ SameStatus s s.readWp.2 := by
  have turns := s.readWp_afterTurns
  by_cases fails : ∃ d ∈ [SlotId.s3, .s2, .s1, .s0], (s.openSlot d).1 = false
  · left; rw [StatusIs, turns.latched fails]; exact ⟨rfl, rfl⟩
  · exact .inr (SameStatus.of_hdc (turns.clean fun d hd => by simpa using mt (⟨d, hd, ·⟩) fails).1)

theorem State.fetchData_status (s : State) (d : SlotId) : SameStatus s (s.fetchData d) := by
  unfold State.fetchData SameStatus
  split <;> simp

theorem State.readData_status (s : State) : NextHolds (SameStatus s) s.readData := by
  unfold State.readData
  split
  · split
    · exact .next (s.fetchData_status _)
    · exact .fault
  · exact .next ⟨rfl, rfl⟩

theorem State.stored_status (s : State) (d : SlotId) (v : Byte) : SameStatus s (s.stored d v) := by
  rw [SameStatus, State.stored_eq]
  exact ⟨rfl, rfl⟩

theorem State.storeData_status (s : State) (d : SlotId) (v : Byte) :
    StatusIs (s.storeData d v) stError errData ∨ SameStatus s (s.storeData d v) := by
  rcases s.storeData_cases d v with ⟨-, e⟩ | ⟨-, e⟩ <;> rw [e]
  · exact .inr (s.stored_status d v)
  · exact .inl ⟨rfl, rfl⟩

theorem State.writeData_status (s : State) (v : Byte) :
    NextHolds (fun t => StatusIs t stError errData ∨ SameStatus s t) (s.writeData v) := by
  by_cases active : s.storing = true
  · rw [State.writeData, if_pos active]
    exact State.onSelectedSlot_holds _ fun d => (s.setData v).storeData_status d v
  · rw [State.writeData_of_not_storing v active]
    exact .next (.inr ⟨rfl, rfl⟩)

/-- The control port clears status and error with the soft reset, and else leaves them (R252). -/
theorem State.writeControl_status (s : State) (v : Byte) :
    if v.getLsbD 4 then StatusIs (s.writeControl v) 0x00#8 0x00#8 else SameStatus s (s.writeControl v) := by
  split
  · rename_i reset; rw [State.writeControl_of_set s reset]; exact ⟨rfl, rfl⟩
  · rename_i noReset; rw [State.writeControl_of_clear s (Bool.eq_false_of_not_eq_true noReset)]; exact ⟨rfl, rfl⟩

theorem State.writeSdh_status (s : State) (v : Byte) : SameStatus s (s.writeSdh v) := by
  rw [State.writeSdh_eq]; exact ⟨rfl, rfl⟩

theorem State.cmdFormat_status (s : State) (v : Byte) :
    NextHolds (StatusIs · stReady errNone) (s.cmdFormat v) := by
  rw [State.cmdFormat_eq]; exact .next ⟨rfl, rfl⟩

/-- READ and WRITE with the DMA flag abort, without it they locate (R283 to R285). -/
theorem State.transfer_status (s : State) (v : Byte) :
    NextHolds
      (fun t => if v.getLsbD 3 then StatusIs t 0x01#8 0x04#8 else StatusIs t 0x01#8 0x10#8 ∨ StatusIs t 0x48#8 0x00#8)
      (if commandDma v then s.cmdDma v else s.cmdTransfer v) := by
  unfold commandDma
  cases v.getLsbD 3 with
  | true => exact .next ⟨rfl, rfl⟩
  | false => exact s.runLocating_status stReadyDrq v

/-- The command port leaves what the row of the byte's opcode leaves (R280, R299). -/
theorem State.runCommand_status (s : State) (v : Byte) :
    NextHolds (StatusRow (.iowrCommand v) s) (s.runCommand v) := by
  intro t e
  rw [State.runCommand_opcode, commandOpcode] at e
  simp only [StatusRow]
  generalize v.extractLsb' 4 4 = opcode at e ⊢
  rcases opcode_cases opcode with rfl | rfl | rfl | rfl | rfl | rfl | rfl | rfl | unknown
  · cases e; exact ⟨rfl, rfl⟩
  · cases e; exact ⟨rfl, rfl⟩
  · exact s.transfer_status v t e
  · exact s.transfer_status v t e
  · exact s.runLocating_status stReady v t e
  · exact s.cmdFormat_status v t e
  · cases e; exact ⟨rfl, rfl⟩
  · exact s.runLocating_status stReady v t e
  · simp only [ne_lowNibbles_of_eight_le opcode unknown, false_or, if_false] at e
    cases e
    split
    case h_8 => exact ⟨rfl, rfl⟩
    all_goals omega

/-- Every operation of the HDC leaves status and error as its row says. -/
theorem exec_hdcStatus (i : Instr) (s : State) (h : isHdcOperation i = true) :
    NextHolds (StatusRow i s) (exec i s) := by
  cases i with
  | iordWp => exact .next s.readWp_status
  | iordControl | iordError | iordSeccnt | iordSecnum | iordCyllo | iordCylhi | iordSdh | iordStatus | iowrWp v
  | iowrPrecomp v | iowrSeccnt v | iowrSecnum v | iowrCyllo v | iowrCylhi v => exact .next ⟨rfl, rfl⟩
  | iowrSdh v => exact .next (s.writeSdh_status v)
  | iordData => exact s.readData_status
  | iowrData v => exact s.writeData_status v
  | iowrControl v => exact .next (s.writeControl_status v)
  | iowrCommand v => exact s.runCommand_status v
  | read low | write low => exact s.runLocating_status stReadyDrq _
  | verify low | seek low => exact s.runLocating_status stReady _
  | format low => exact s.cmdFormat_status _
  | restore low | readDma low | writeDma low | init low | unknown0 low | unknown8F low => exact .next ⟨rfl, rfl⟩
  | _ => cases h

/-- The rows that are not the HDC's or RESET's leave status and error. -/
theorem statusRow_of_not_hdcOperation {i : Instr} {s t : State} (h : isHdcOperation i = false) (hr : i ≠ .reset)
    (same : SameStatus s t) : StatusRow i s t := by
  cases i with
  | reset => exact absurd rfl hr
  | iowrControl v | restore low | format low | init low | readDma low | writeDma low | read low | write low | verify low
  | seek low | iordWp | iowrData v | iowrCommand v => cases h
  | _ => exact same

/-- Settles O51: the HDC's operations row by row; the others leave the HDC by their frame, but for RESET. -/
theorem hdcStatusTable : Obligations.HdcStatusTable := by
  unfold Obligations.HdcStatusTable
  intro i s t hw e
  by_cases hr : i = .reset
  · subst hr; cases e; exact ⟨rfl, rfl⟩
  cases hi : isHdcOperation i with
  | false =>
    obtain ⟨hdc, -, -⟩ := (exec_memdecFrame i s hw hi hr t e).keeps_hdc
    exact statusRow_of_not_hdcOperation hi hr (SameStatus.of_hdc hdc)
  | true => exact exec_hdcStatus i s hi t e

/-! ### A sector written is read back (W2) -/

theorem execAll_cons {i : Instr} {s t : State} (is : List Instr) (e : exec i s = .next t) :
    execAll (i :: is) s = execAll is t := by
  simp only [execAll, e]

/-- The registers select a sector of the open slot `d` that begins at byte `base` of the writable image `img`, and no
media operation on the slot fails. -/
structure SectorAt (s : State) (d : SlotId) (base : Nat) (img : Image) : Prop where
  drive : slotOfDrive s.hdc.drive = some d
  isOpen : (s.drv.get d).isOpen = true
  head : s.hdc.head.toNat < (s.drv.get d).heads
  secnum : s.hdc.secnum.toNat < (s.drv.get d).sectorsPerTrack
  begins : base = sectorPos s.hdc.cyl.toNat s.hdc.head.toNat s.hdc.secnum.toNat (s.drv.get d).heads
    (s.drv.get d).sectorsPerTrack
  medium : s.media.get d = some img
  writable : img.access = .rw
  clean : NoFaultOn s d

/-- The transfer command with this opcode is in progress on the sector: `k` bytes are done and none failed. -/
structure Transfer (s : State) (d : SlotId) (base : Nat) (img : Image) (opcode : BitVec 4) (k : Nat) : Prop
    extends SectorAt s d base img where
  command : s.hdc.command.extractLsb' 4 4 = opcode
  status : s.hdc.status = 0x48#8
  count : s.hdc.bytesdone = k
  position : (s.drv.get d).fpos = base + k

/-- The sector stays selected while the registers that select it, the slot but for its position and the failing
operations stay. -/
theorem SectorAt.update {s t : State} {d : SlotId} {base pos : Nat} {img img' : Image} (h : SectorAt s d base img)
    (registers : t.hdc.drive = s.hdc.drive ∧ t.hdc.cyl = s.hdc.cyl ∧ t.hdc.head = s.hdc.head
      ∧ t.hdc.secnum = s.hdc.secnum)
    (slot : t.drv.get d = { s.drv.get d with fpos := pos }) (medium : t.media.get d = some img')
    (access : img'.access = img.access) (faults : t.ioFaults = s.ioFaults) : SectorAt t d base img' := by
  obtain ⟨drive, cyl, head, secnum⟩ := registers
  constructor
  case drive => rw [drive]; exact h.drive
  case isOpen => rw [slot]; exact h.isOpen
  case head => rw [head, slot]; exact h.head
  case secnum => rw [secnum, slot]; exact h.secnum
  case begins => rw [cyl, head, secnum, slot]; exact h.begins
  case medium => exact medium
  case writable => exact access.trans h.writable
  case clean => rw [NoFaultOn, faults]; exact h.clean

/-- A sector's bytes come after the header (R292). -/
theorem SectorAt.past_header {s : State} {d : SlotId} {base : Nat} {img : Image} (h : SectorAt s d base img) :
    256 ≤ base := by
  rw [h.begins]; exact Nat.le_add_right ..

/-- A successful open of a slot with a writable medium selects the sector the registers name, when head and sector
number are in the range of the geometry it leaves. -/
theorem State.openSlot_sectorAt {s : State} {d : SlotId} {img : Image} (drive : slotOfDrive s.hdc.drive = some d)
    (opens : (s.openSlot d).1 = true) (medium : s.media.get d = some img) (writable : img.access = .rw)
    (clean : NoFaultOn s d) (head : s.hdc.head.toNat < ((s.openSlot d).2.drv.get d).heads)
    (secnum : s.hdc.secnum.toNat < ((s.openSlot d).2.drv.get d).sectorsPerTrack) :
    ∃ base, SectorAt (s.openSlot d).2 d base img := by
  obtain ⟨-, isOpen, success, -⟩ := s.openSlot_spec d
  obtain ⟨registers, -⟩ := success opens
  have frame := s.openSlot_openFrame d
  refine ⟨_, ?drive, isOpen.trans opens, ?head, ?secnum, rfl, ?medium, writable, ?clean⟩
  case drive => rw [registers]; exact drive
  case head => rw [registers]; exact head
  case secnum => rw [registers]; exact secnum
  case medium => rw [frame]; exact medium
  case clean => rw [frame]; exact clean

/-- READ and WRITE start a transfer on the sector that their open step leaves selected (R283, R285). -/
theorem State.runLocating_transfer {s : State} {d : SlotId} {base : Nat} {img : Image} {v : Byte}
    (opens : ((s.startCommand v).openSlot d).1 = true)
    (sector : SectorAt ((s.startCommand v).openSlot d).2 d base img) :
    ∃ t, s.runLocating stReadyDrq v = .next t ∧ Transfer t d base img (v.extractLsb' 4 4) 0 := by
  obtain ⟨-, -, success, -⟩ := (s.startCommand v).openSlot_spec d
  obtain ⟨registers, -⟩ := success opens
  obtain ⟨drive, -, head, secnum, begins, medium, -, -⟩ := id sector
  rw [registers] at drive head secnum begins
  refine ⟨_, State.runLocating_of_some stReadyDrq v drive, ?_⟩
  rw [State.locateThen_of_inRange _ opens head secnum, ← begins]
  generalize ((s.startCommand v).openSlot d).2 = opened at *
  refine ⟨sector.update (pos := base) ⟨rfl, rfl, rfl, rfl⟩ ?_ medium rfl rfl, ?_, rfl, ?_, ?_⟩
  · exact PerDrive.get_set_same ..
  · exact congrArg (fun hdc => hdc.command.extractLsb' 4 4) registers
  · exact congrArg Hdc.bytesdone registers
  · exact congrArg Slot.fpos (PerDrive.get_set_same ..)

/-- A slot that is open stays as it is when a command starts (R324). -/
theorem SectorAt.restart {s : State} {d : SlotId} {base : Nat} {img : Image} (h : SectorAt s d base img) (v : Byte) :
    ((s.startCommand v).openSlot d).1 = true ∧ SectorAt ((s.startCommand v).openSlot d).2 d base img := by
  have stays : (s.startCommand v).openSlot d = (true, s.startCommand v) := if_pos h.isOpen
  rw [stays]
  exact ⟨rfl, h.update (pos := (s.drv.get d).fpos) ⟨rfl, rfl, rfl, rfl⟩ rfl h.medium rfl rfl⟩

/-- One byte of progress: the counter and the position move on, in whatever image of the same access. -/
theorem Transfer.advance {s : State} {d : SlotId} {base k : Nat} {img img' : Image} {opcode : BitVec 4}
    (h : Transfer s d base img opcode k) (v : Byte) (x : Answer) (access : img'.access = img.access) :
    Transfer
      { s with
        media := s.media.set d (some img')
        drv := s.drv.set d { s.drv.get d with fpos := (s.drv.get d).fpos + 1 }
        hdc := { s.hdc with data := v, bytesdone := s.hdc.bytesdone + 1 }
        answer := x } d base img' opcode (k + 1) where
  toSectorAt :=
    h.toSectorAt.update ⟨rfl, rfl, rfl, rfl⟩ (PerDrive.get_set_same ..) (PerDrive.get_set_same ..) access rfl
  command := h.command
  status := h.status
  count := congrArg (· + 1) h.count
  position := by simp only [PerDrive.get_set_same, h.position]; omega

/-- A data read of a READ in progress answers the next byte of the sector (R293). -/
theorem Transfer.read {s : State} {d : SlotId} {base k : Nat} {img : Image} (h : Transfer s d base img 2#4 k)
    (below : k < 256) (inside : base + k < img.len) :
    ∃ t, exec .iordData s = .next t ∧ t.answer = .byte (img.byteAt d (base + k))
      ∧ Transfer t d base img 2#4 (k + 1) := by
  have active : s.hdc.command.extractLsb' 4 4 = 2#4 ∧ s.hdc.status.getLsbD 0 = false ∧ s.hdc.bytesdone < 256 :=
    ⟨h.command, by rw [h.status]; rfl, by rw [h.count]; exact below⟩
  rw [← h.position] at inside ⊢
  obtain ⟨-, whenActive⟩ := dataReadResult s d
  obtain ⟨fetches, -⟩ := whenActive active h.drive
  refine ⟨_, fetches img h.isOpen h.medium inside fun fault => h.clean _ fault rfl, rfl, ?_⟩
  have moved := h.advance (img.byteAt d (s.drv.get d).fpos) (.byte (img.byteAt d (s.drv.get d).fpos)) rfl
  rw [if_pos h.isOpen]
  rw [← h.medium, PerDrive.set_get] at moved
  exact moved

/-- The image holds these bytes from `pos` on, all inside its length. -/
def Image.Holds (img : Image) (d : SlotId) (pos : Nat) (bytes : List Byte) : Prop :=
  ∀ (k : Nat) (hk : k < bytes.length), pos + k < img.len ∧ img.byteAt d (pos + k) = bytes[k]

/-- A data write of a WRITE in progress appends its byte to those the sector holds already: what else it writes lies in
the header (R295, R297). -/
theorem Transfer.write {s : State} {d : SlotId} {base : Nat} {img : Image} {done : List Byte}
    (h : Transfer s d base img 3#4 done.length) (below : done.length < 256) (held : img.Holds d base done) (v : Byte) :
    ∃ t img', exec (.iowrData v) s = .next t ∧ Transfer t d base img' 3#4 (done ++ [v]).length
      ∧ img'.Holds d base (done ++ [v]) := by
  have active : s.hdc.command.extractLsb' 4 4 = 3#4 ∧ s.hdc.bytesdone < 256 :=
    ⟨h.command, by rw [h.count]; exact below⟩
  obtain ⟨-, whenActive⟩ := dataWriteStores s d v img
  obtain ⟨t, img', stored, rfl, access, len, bytes⟩ :=
    whenActive active h.drive h.isOpen h.medium h.writable h.clean
  refine ⟨_, img', stored, ?_, fun k hk => ?_⟩
  · rw [List.length_append]
    exact h.advance v .nothing access
  · have := h.past_header
    rw [List.length_append, List.length_singleton] at hk
    rw [bytes, len, h.position, List.getElem_append]
    by_cases last : k = done.length
    · subst last; simp
    · obtain ⟨inside, held⟩ := held k (by omega)
      have before : k < done.length := by omega
      have otherByte : ¬base + k = base + done.length := by omega
      have pastHeader : ¬base + k = 31 := by omega
      simp only [otherByte, pastHeader, and_false, if_false, before, dif_pos, held, and_true]
      split <;> omega

/-- The bytes written one after the other are all held at the end. -/
theorem Transfer.writeAll {d : SlotId} {base : Nat} (rest : List Byte) {s : State} {img : Image} {done : List Byte}
    (h : Transfer s d base img 3#4 done.length) (held : img.Holds d base done)
    (room : done.length + rest.length ≤ 256) :
    ∃ t img', execAll (rest.map .iowrData) s = .next t ∧ Transfer t d base img' 3#4 (done ++ rest).length
      ∧ img'.Holds d base (done ++ rest) := by
  induction rest generalizing s img done with
  | nil => exact ⟨s, img, rfl, by rwa [List.append_nil], by rwa [List.append_nil]⟩
  | cons v rest ih =>
    rw [List.length_cons] at room
    obtain ⟨t, img', e, transfer, holds⟩ := h.write (by omega) held v
    obtain ⟨u, img'', run, finished, all⟩ := ih transfer holds
      (by rw [List.length_append, List.length_singleton]; omega)
    rw [List.append_assoc, List.singleton_append] at finished all
    exact ⟨u, img'', (execAll_cons _ e).trans run, finished, all⟩

/-- After `n` data reads the next one answers the byte `n` further on. -/
theorem Transfer.readAll {d : SlotId} {base : Nat} {img : Image} (n : Nat) {s : State} {k : Nat}
    (h : Transfer s d base img 2#4 k) (below : k + n < 256) (inside : base + (k + n) < img.len) :
    ∃ t, execAll (List.replicate (n + 1) .iordData) s = .next t ∧ t.answer = .byte (img.byteAt d (base + (k + n)))
      ∧ t.hdc.status = 0x48#8 := by
  induction n generalizing s k with
  | zero =>
    obtain ⟨t, e, answer, transfer⟩ := h.read below inside
    exact ⟨t, execAll_cons [] e, answer, transfer.status⟩
  | succ n ih =>
    obtain ⟨t, e, -, transfer⟩ := h.read (by omega) (by omega)
    have next : k + (n + 1) = k + 1 + n := by omega
    rw [next] at below inside ⊢
    obtain ⟨u, run, answer, status⟩ := ih transfer below inside
    exact ⟨u, (execAll_cons _ e).trans run, answer, status⟩

theorem readByte_opcode : ∀ low : BitVec 3, (4#5 ++ low : Byte).extractLsb' 4 4 = 2#4 := by decide

theorem writeByte_opcode : ∀ low : BitVec 3, (6#5 ++ low : Byte).extractLsb' 4 4 = 3#4 := by decide

/-- Settles O59: WRITE starts a transfer at the sector's position, the data writes fill the sector, READ starts a
transfer at the same position, and the data reads return what the sector holds. -/
theorem sectorRoundTrip : Obligations.SectorRoundTrip := by
  unfold Obligations.SectorRoundTrip
  intro s d img bytes lw lr drive opens medium writable clean head secnum full
  obtain ⟨verdict, record⟩ : ((s.startCommand (6#5 ++ lw)).openSlot d).1 = (s.openSlot d).1
      ∧ ((s.startCommand (6#5 ++ lw)).openSlot d).2.drv.get d = (s.openSlot d).2.drv.get d :=
    State.openSlot_congr rfl rfl rfl rfl
  rw [← verdict] at opens
  rw [← record] at head secnum
  obtain ⟨base, sector⟩ :=
    State.openSlot_sectorAt (s := s.startCommand (6#5 ++ lw)) drive opens medium writable clean head secnum
  obtain ⟨t, write, writing⟩ := State.runLocating_transfer opens sector
  rw [writeByte_opcode] at writing
  obtain ⟨w, img', written, finished, holds⟩ := writing.writeAll (done := []) bytes nofun (by simp [full])
  rw [List.nil_append] at finished holds
  obtain ⟨reopens, same⟩ := finished.toSectorAt.restart (4#5 ++ lr)
  obtain ⟨r, read, reading⟩ := State.runLocating_transfer reopens same
  rw [readByte_opcode] at reading
  refine ⟨w, r, (execAll_cons _ ((exec_write lw s).trans write)).trans written, finished.status,
    finished.count.trans full, (exec_read lr w).trans read, reading.status, fun k hk => ?_⟩
  obtain ⟨inside, byte⟩ := holds k hk
  have returned := reading.readAll k (by omega) (by rwa [Nat.zero_add])
  rwa [Nat.zero_add, byte] at returned

end Sys2Proof.Machine

/-! # The drive manager (46_drive_manager.md)

The open step is one equation per row of R324 to R327. What a disk keeps is said of the two halves of its state apart:
`MediaKept` of the images and `SlotsKept` of the records. Only a data write moves an image, at the open slot's position,
which the invariant keeps past the header, or at byte 31; only a reset closes an open slot. -/

namespace Sys2Proof.Machine
open Sys2Proof.Safety

/-! ### The open step (R324 to R327) -/

theorem State.headerReadable_iff (s : State) (d : SlotId) (img : Image) :
    s.headerReadable d img = true
      ↔ ¬(img.len < 256 ∨ ∃ pos, pos < 256 ∧ IoFaultAt.mk d .read pos ∈ s.ioFaults) := by
  simp only [State.headerReadable, List.all_eq_true, List.mem_range, State.imageReadable_iff, not_or, not_exists,
    not_and, Nat.not_lt]
  constructor
  · intro readable
    obtain ⟨long, -⟩ := readable 255 (by decide)
    exact ⟨long, fun pos inside => (readable pos inside).2⟩
  · intro ⟨long, noFault⟩ pos inside
    exact ⟨Nat.lt_of_lt_of_le inside long, noFault pos inside⟩

theorem headerValid_iff (magic0 magic1 version : Byte) :
    headerValid magic0 magic1 version = true ↔ magic0 = 0x56#8 ∧ magic1 = 0xCB#8 ∧ version = 0x10#8 := by
  simp only [headerValid, Bool.and_eq_true, decide_eq_true_eq, and_assoc]

/-- The geometries that R326 rejects. -/
theorem headerHeads_none {spt : Nat} {field : Byte} :
    headerHeads spt field = none ↔ ¬(field.toNat % spt = 0 ∧ 1 ≤ field.toNat / spt ∧ field.toNat / spt ≤ 8) := by
  rw [Option.eq_none_iff_forall_ne_some]
  simp only [ne_eq, headerHeads_some]
  exact ⟨fun none ⟨whole, low, high⟩ => none _ ⟨whole, rfl, low, high⟩,
    fun bad heads ⟨whole, quotient, range⟩ => bad ⟨whole, quotient ▸ range⟩⟩

section openSlot
variable {s : State} {d : SlotId}

theorem State.openSlot_of_open (isOpen : (s.drv.get d).isOpen = true) : s.openSlot d = (true, s) :=
  if_pos isOpen

theorem State.openSlot_of_absent (closed : (s.drv.get d).isOpen = false) (absent : s.media.get d = none) :
    s.openSlot d = (false, s.openFail d) := by
  simp [State.openSlot, closed, absent]

variable {img : Image} (closed : (s.drv.get d).isOpen = false) (medium : s.media.get d = some img)
include closed medium

theorem State.openSlot_of_badHeader
    (bad : ¬(s.headerReadable d img = true ∧ headerValid (img.byteAt d 0) (img.byteAt d 1) (img.byteAt d 2) = true)) :
    s.openSlot d = (false, (s.report .cfgBadHeader).openFail d) := by
  simp only [State.openSlot, closed, medium, Bool.false_eq_true, if_false]
  exact if_neg (mt Bool.and_eq_true_iff.1 bad)

theorem State.openSlot_of_badGeometry (readable : s.headerReadable d img = true)
    (valid : headerValid (img.byteAt d 0) (img.byteAt d 1) (img.byteAt d 2) = true)
    (bad : headerHeads s.straps.sectorsPerTrack (img.byteAt d 29) = none) :
    s.openSlot d = (false, (s.report .cfgBadGeometry).openFail d) := by
  simp [State.openSlot, closed, medium, readable, valid, bad]

theorem State.openSlot_of_goodHeader {heads : Nat} (readable : s.headerReadable d img = true)
    (valid : headerValid (img.byteAt d 0) (img.byteAt d 1) (img.byteAt d 2) = true)
    (geometry : headerHeads s.straps.sectorsPerTrack (img.byteAt d 29) = some heads) :
    s.openSlot d = (true, s.setSlot d (openedSlot s.straps.sectorsPerTrack d img heads)) := by
  simp [State.openSlot, closed, medium, readable, valid, geometry]

end openSlot

/-- Settles O44: one equation of the open step per case, its tests of the header put in the statement's words. -/
theorem openStepResult : Obligations.OpenStepResult := by
  unfold Obligations.OpenStepResult
  intro s d
  refine ⟨State.openSlot_of_open, State.openSlot_of_absent, fun img closed medium => ?_⟩
  intro fetchFails goodHeader field spt goodGeometry
  have readable : s.headerReadable d img = true ↔ ¬fetchFails := s.headerReadable_iff d img
  have valid : headerValid (img.byteAt d 0) (img.byteAt d 1) (img.byteAt d 2) = true ↔ goodHeader :=
    headerValid_iff ..
  refine ⟨fun bad => ?_, fun fetched header bad => ?_, fun fetched header ⟨whole, low, high⟩ => ?_⟩
  · refine State.openSlot_of_badHeader closed medium fun ⟨read, header⟩ => ?_
    exact bad.elim (readable.1 read) fun noHeader => noHeader (valid.1 header)
  · exact State.openSlot_of_badGeometry closed medium (readable.2 fetched) (valid.2 header) (headerHeads_none.2 bad)
  · exact State.openSlot_of_goodHeader closed medium (readable.2 fetched) (valid.2 header)
      (headerHeads_some.2 ⟨whole, rfl, low, high⟩)

/-! ### What is kept of a disk (R330) -/

/-- The image `img'` has the access of `img`, its header but for byte 31, and at least its length. -/
structure Image.HeaderKept (d : SlotId) (img img' : Image) : Prop where
  access : img'.access = img.access
  length : img.len ≤ img'.len
  header : ∀ pos, pos < 256 → pos ≠ 31 → img'.byteAt d pos = img.byteAt d pos

theorem Image.HeaderKept.refl (d : SlotId) (img : Image) : img.HeaderKept d img :=
  ⟨rfl, Nat.le_refl _, fun _ _ _ => rfl⟩

theorem Image.HeaderKept.trans {d : SlotId} {a b c : Image} (h : a.HeaderKept d b) (k : b.HeaderKept d c) :
    a.HeaderKept d c :=
  ⟨k.access.trans h.access, Nat.le_trans h.length k.length,
    fun pos inside other => (k.header pos inside other).trans (h.header pos inside other)⟩

/-- A byte stored past the header or at byte 31 keeps the rest of the header. -/
theorem Image.headerKept_put (d : SlotId) (img : Image) {pos : Nat} (v : Byte) (outside : 256 ≤ pos ∨ pos = 31) :
    img.HeaderKept d (img.put pos v) := by
  refine ⟨rfl, Nat.le_max_left .., fun q inside other => ?_⟩
  have elsewhere : pos ≠ q := by omega
  rw [Image.byteAt_put, if_neg elsewhere]

/-- Every image stays present with its header kept. -/
def MediaKept (m m' : PerDrive (Option Image)) : Prop :=
  ∀ d img, m.get d = some img → ∃ img', m'.get d = some img' ∧ img.HeaderKept d img'

theorem MediaKept.refl (m : PerDrive (Option Image)) : MediaKept m m :=
  fun d img medium => ⟨img, medium, .refl d img⟩

theorem MediaKept.trans {m m' m'' : PerDrive (Option Image)} (h : MediaKept m m') (k : MediaKept m' m'') :
    MediaKept m m'' := by
  intro d img medium
  obtain ⟨img', medium', kept⟩ := h d img medium
  obtain ⟨img'', medium'', kept'⟩ := k d img' medium'
  exact ⟨img'', medium'', kept.trans kept'⟩

theorem MediaKept.set {m : PerDrive (Option Image)} {d : SlotId} {img img' : Image} (medium : m.get d = some img)
    (h : img.HeaderKept d img') : MediaKept m (m.set d (some img')) := by
  intro e other medium'
  rw [PerDrive.get_set]
  split
  · subst e
    obtain rfl : img = other := Option.some.inj (medium.symm.trans medium')
    exact ⟨img', rfl, h⟩
  · exact ⟨other, medium', .refl e other⟩

/-- A slot that was open stays open with its geometry. -/
def SlotKept (x y : Slot) : Prop :=
  x.isOpen = true →
    y.isOpen = true ∧ y.cylinders = x.cylinders ∧ y.heads = x.heads ∧ y.sectorsPerTrack = x.sectorsPerTrack

theorem SlotKept.refl (x : Slot) : SlotKept x x := fun isOpen => ⟨isOpen, rfl, rfl, rfl⟩

theorem SlotKept.trans {x y z : Slot} (h : SlotKept x y) (k : SlotKept y z) : SlotKept x z := by
  intro isOpen
  obtain ⟨isOpen', cylinders, heads, sectors⟩ := h isOpen
  obtain ⟨isOpen'', cylinders', heads', sectors'⟩ := k isOpen'
  exact ⟨isOpen'', cylinders'.trans cylinders, heads'.trans heads, sectors'.trans sectors⟩

theorem slotKept_of_closed {x : Slot} (closed : x.isOpen = false) (y : Slot) : SlotKept x y :=
  fun isOpen => absurd (isOpen.symm.trans closed) (by decide)

theorem slotKept_fpos (x : Slot) (pos : Nat) : SlotKept x { x with fpos := pos } :=
  fun isOpen => ⟨isOpen, rfl, rfl, rfl⟩

/-- Every open slot stays open with its geometry. -/
def SlotsKept (p q : PerDrive Slot) : Prop := ∀ d, SlotKept (p.get d) (q.get d)

theorem SlotsKept.set {p : PerDrive Slot} {d : SlotId} {x : Slot} (h : SlotKept (p.get d) x) :
    SlotsKept p (p.set d x) := by
  intro e
  rw [PerDrive.get_set]
  split
  · subst e; exact h
  · exact .refl _

/-- No image loses its header and no open slot its geometry. -/
structure DisksKept (s t : State) : Prop where
  media : MediaKept s.media t.media
  slots : SlotsKept s.drv t.drv

theorem DisksKept.of_eq {s t : State} (media : t.media = s.media) (drv : t.drv = s.drv) : DisksKept s t :=
  ⟨by rw [media]; exact .refl _, by rw [drv]; exact fun _ => .refl _⟩

theorem DisksKept.of_slots {s t : State} (media : t.media = s.media) (slots : SlotsKept s.drv t.drv) : DisksKept s t :=
  ⟨by rw [media]; exact .refl _, slots⟩

theorem DisksKept.trans {s t u : State} (h : DisksKept s t) (k : DisksKept t u) : DisksKept s u :=
  ⟨h.media.trans k.media, fun d => (h.slots d).trans (k.slots d)⟩

/-- What is kept from `s'` on is kept from a state with the same disks. -/
theorem DisksKept.after {s s' t : State} (h : DisksKept s' t) (media : s'.media = s.media) (drv : s'.drv = s.drv) :
    DisksKept s t :=
  (DisksKept.of_eq media drv).trans h

theorem DisksKept.reply {s t : State} (h : DisksKept s t) (x : Answer) : DisksKept s (t.reply x) :=
  h.trans (.of_eq rfl rfl)

/-! ### Opening and locating -/

/-- The open step writes the record of a closed slot only (R324). -/
theorem State.openSlot_disksKept (s : State) (d : SlotId) : DisksKept s (s.openSlot d).2 := by
  have write (x : Slot) (closed : (s.drv.get d).isOpen = false) : SlotsKept s.drv (s.drv.set d x) :=
    .set (slotKept_of_closed closed x)
  rcases s.openSlot_cases d with
    ⟨-, e⟩ | ⟨closed, -, e⟩ | ⟨img, closed, -, -, e⟩ | ⟨img, closed, -, -, -, e⟩ | ⟨img, heads, closed, -, -, -, e⟩ <;>
    rw [e]
  · exact .of_eq rfl rfl
  · exact .of_slots rfl (write _ closed)
  · exact .of_slots rfl (write _ closed)
  · exact .of_slots rfl (write _ closed)
  · exact .of_slots rfl (write _ closed)

theorem State.setFpos_disksKept (s : State) (d : SlotId) (pos : Nat) : DisksKept s (s.setFpos d pos) :=
  .of_slots rfl (.set (slotKept_fpos _ pos))

theorem State.locate_disksKept (s : State) (d : SlotId) : DisksKept s (s.locate d).2 := by
  rcases s.locate_cases d with ⟨-, e⟩ | ⟨-, -, e⟩ | ⟨-, -, e⟩ <;> rw [e]
  · exact s.openSlot_disksKept d
  · exact (s.openSlot_disksKept d).trans (.of_eq rfl rfl)
  · exact (s.openSlot_disksKept d).trans (State.setFpos_disksKept _ d _)

/-- READ, WRITE, VERIFY and SEEK open and position their slot, and write no image (R290). -/
theorem State.runLocating_disksKept (s : State) (st v : Byte) : NextHolds (DisksKept s) (s.runLocating st v) := by
  refine State.onSelectedSlot_holds _ fun d => DisksKept.reply ?_ _
  have located : DisksKept s ((s.startCommand v).locate d).2 :=
    (State.locate_disksKept _ d).after rfl rfl
  unfold State.locateThen
  simp only
  split
  · exact located.trans (.of_eq rfl rfl)
  · exact located

theorem State.cmdRestore_disksKept (s : State) (v : Byte) : NextHolds (DisksKept s) (s.cmdRestore v) :=
  .next (.of_eq rfl rfl)

theorem State.cmdDma_disksKept (s : State) (v : Byte) : NextHolds (DisksKept s) (s.cmdDma v) := by
  rw [State.cmdDma_eq]; exact .next (.of_eq rfl rfl)

theorem State.cmdInit_disksKept (s : State) (v : Byte) : NextHolds (DisksKept s) (s.cmdInit v) := by
  rw [State.cmdInit_eq]; exact .next (.of_eq rfl rfl)

theorem State.cmdUnknown_disksKept (s : State) (v : Byte) : NextHolds (DisksKept s) (s.cmdUnknown v) :=
  .next (.of_eq rfl rfl)

theorem State.cmdFormat_disksKept (s : State) (v : Byte) : NextHolds (DisksKept s) (s.cmdFormat v) := by
  rw [State.cmdFormat_eq]; exact .next (.of_eq rfl rfl)

theorem State.runCommand_disksKept (s : State) (v : Byte) : NextHolds (DisksKept s) (s.runCommand v) := by
  rw [State.runCommand_opcode]
  split_ifs
  · exact s.cmdRestore_disksKept v
  · exact s.cmdDma_disksKept v
  · exact s.runLocating_disksKept stReadyDrq v
  · exact s.runLocating_disksKept stReady v
  · exact s.cmdFormat_disksKept v
  · exact s.cmdInit_disksKept v
  · exact s.cmdUnknown_disksKept v

/-- The WP read leaves each slot as its open step does, and writes no image (R251). -/
theorem State.readWp_disksKept (s : State) : DisksKept s s.readWp.2 := by
  have turns := s.readWp_afterTurns
  refine .of_slots (by rw [turns.frame]) fun d => ?_
  rw [turns.opened d (mem_allSlots d)]
  exact (s.openSlot_disksKept d).slots d

/-! ### The data port -/

theorem State.advance_disksKept (s : State) (d : SlotId) : DisksKept s (s.advance d) := by
  rw [State.advance_eq]
  split
  · exact .of_slots rfl (.set (slotKept_fpos _ _))
  · exact .of_eq rfl rfl

theorem State.readData_disksKept (s : State) : NextHolds (DisksKept s) s.readData := by
  have fetched (d : SlotId) : DisksKept s (s.fetchData d) := by
    unfold State.fetchData
    split
    · exact (State.advance_disksKept _ d).after rfl rfl
    · exact (State.advance_disksKept _ d).after rfl rfl
  unfold State.readData
  split
  · split
    · exact .next ((fetched _).reply _)
    · exact .fault
  · exact .next (.of_eq rfl rfl)

theorem State.mediaWrite_mediaKept {s : State} {d : SlotId} {pos : Nat} (v : Byte)
    (outside : (s.drv.get d).isOpen = true → 256 ≤ pos ∨ pos = 31) :
    MediaKept s.media (s.mediaWrite d pos v).2.media := by
  rcases s.mediaWrite_cases d pos v with e | ⟨img, isOpen, medium, -, -, e⟩ <;> rw [e]
  · exact .refl _
  · exact .set medium (Image.headerKept_put d img v (outside isOpen))

theorem State.quirkWrite_mediaKept (s : State) (d : SlotId) (v : Byte) :
    MediaKept s.media (s.quirkWrite d v).2.media := by
  unfold State.quirkWrite
  split
  · exact State.mediaWrite_mediaKept v fun _ => .inr rfl
  · exact .refl _

/-- A data write stores its byte at the slot's position, which the invariant keeps past the header, and the quirk's copy
at byte 31 (R295, R297, R330). -/
theorem State.storedMedia_mediaKept {s : State} {d : SlotId} (v : Byte) (ok : SlotOk s d) :
    MediaKept s.media (s.storedMedia d v) := by
  refine (s.quirkWrite_mediaKept d v).trans (State.mediaWrite_mediaKept v fun isOpen => ?_)
  rw [State.quirkWrite_media] at isOpen
  obtain ⟨-, -, -, -, -, pastHeader, -⟩ := ok.2 isOpen
  exact .inl pastHeader

theorem State.stored_disksKept {s : State} {d : SlotId} (v : Byte) (ok : SlotOk s d) : DisksKept s (s.stored d v) :=
  .trans (t := { s with media := s.storedMedia d v }) ⟨State.storedMedia_mediaKept v ok, fun _ => .refl _⟩
    (State.advance_disksKept _ d)

theorem State.storeData_disksKept {s : State} {d : SlotId} (v : Byte) (ok : SlotOk s d) :
    DisksKept s (s.storeData d v) := by
  rcases s.storeData_cases d v with ⟨-, e⟩ | ⟨-, e⟩ <;> rw [e]
  · exact State.stored_disksKept v ok
  · exact (State.stored_disksKept v ok).trans (.of_eq rfl rfl)

theorem State.writeData_disksKept {s : State} (v : Byte) (ok : ∀ d, SlotOk s d) :
    NextHolds (DisksKept s) (s.writeData v) := by
  by_cases active : s.storing = true
  · rw [State.writeData, if_pos active]
    refine State.onSelectedSlot_holds _ fun d => DisksKept.reply ?_ _
    exact (State.storeData_disksKept (s := s.setData v) v (ok d)).after rfl rfl
  · rw [State.writeData_of_not_storing v active]
    exact .next (.of_eq rfl rfl)

/-! ### Every operation -/

/-- What an operation can do to the disks: keep them, or close every slot and leave the images (R328). -/
inductive DisksEffect (s t : State) : Prop
  | kept (h : DisksKept s t)
  | closed (media : t.media = s.media) (slots : ∀ d, t.drv.get d = .closed)

theorem DisksEffect.after {s s' t : State} (h : DisksEffect s' t) (media : s'.media = s.media) (drv : s'.drv = s.drv) :
    DisksEffect s t := by
  cases h with
  | kept h => exact .kept (h.after media drv)
  | closed unmoved slots => exact .closed (unmoved.trans media) slots

theorem DisksEffect.mediaKept {s t : State} (h : DisksEffect s t) : MediaKept s.media t.media := by
  cases h with
  | kept h => exact h.media
  | closed media slots => rw [media]; exact .refl _

/-- A slot that is open before and after keeps its geometry. -/
theorem DisksEffect.geometry {s t : State} {d : SlotId} (h : DisksEffect s t) (before : (s.drv.get d).isOpen = true)
    (after : (t.drv.get d).isOpen = true) :
    (t.drv.get d).cylinders = (s.drv.get d).cylinders ∧ (t.drv.get d).heads = (s.drv.get d).heads
      ∧ (t.drv.get d).sectorsPerTrack = (s.drv.get d).sectorsPerTrack := by
  cases h with
  | kept h => exact (h.slots d before).2
  | closed media slots => rw [slots d] at after; cases after

/-- The soft reset closes the slots; without it only the control register moves (R252). -/
theorem State.writeControl_disksEffect (s : State) (v : Byte) : DisksEffect s ((s.writeControl v).reply .nothing) := by
  unfold State.writeControl
  simp only
  split
  · exact .closed rfl PerDrive.get_closed
  · exact .kept (.of_eq rfl rfl)

theorem exec_hdcDisksEffect {s : State} (i : Instr) (ok : ∀ d, SlotOk s d) (h : isHdcOperation i = true) :
    NextHolds (DisksEffect s) (exec i s) := by
  have kept {o : Host.Outcome State Fault Refusal} (h : NextHolds (DisksKept s) o) : NextHolds (DisksEffect s) o :=
    fun t e => .kept (h t e)
  cases i with
  | iordWp => exact .next (.kept (s.readWp_disksKept.reply _))
  | iordControl | iordError | iordSeccnt | iordSecnum | iordCyllo | iordCylhi | iordSdh | iordStatus | iowrWp v
  | iowrPrecomp v | iowrSeccnt v | iowrSecnum v | iowrCyllo v | iowrCylhi v => exact .next (.kept (.of_eq rfl rfl))
  | iowrSdh v => exact .next (.kept (by rw [State.writeSdh_eq]; exact .of_eq rfl rfl))
  | iordData => exact kept s.readData_disksKept
  | iowrData v => exact kept (State.writeData_disksKept v ok)
  | iowrControl v => exact .next (s.writeControl_disksEffect v)
  | iowrCommand v => exact kept (s.runCommand_disksKept v)
  | read low | write low => exact kept (s.runLocating_disksKept stReadyDrq _)
  | verify low | seek low => exact kept (s.runLocating_disksKept stReady _)
  | format low => exact kept (s.cmdFormat_disksKept _)
  | restore low => exact kept (s.cmdRestore_disksKept _)
  | readDma low | writeDma low => exact kept (s.cmdDma_disksKept _)
  | init low => exact kept (s.cmdInit_disksKept _)
  | unknown0 low | unknown8F low => exact kept (s.cmdUnknown_disksKept _)
  | _ => cases h

/-- Every well-formed operation has one of these effects: RESET closes the slots, and what is not the HDC's leaves
them. -/
theorem exec_disksEffect {s : State} {i : Instr} (hw : i.wellFormed = true) (ok : ∀ d, SlotOk s d) :
    NextHolds (DisksEffect s) (exec i s) := by
  intro t e
  by_cases hr : i = .reset
  · subst hr; cases e; exact .closed rfl PerDrive.get_closed
  cases hi : isHdcOperation i with
  | false =>
    obtain ⟨-, drv, media⟩ := (exec_memdecFrame i s hw hi hr t e).keeps_hdc
    exact .kept (.of_eq media drv)
  | true => exact exec_hdcDisksEffect i ok hi t e

/-- Settles O58: a step does nothing or runs a well-formed operation, which has one of the effects of `DisksEffect`. -/
theorem headerAndGeometryKept : Obligations.HeaderAndGeometryKept := by
  unfold Obligations.HeaderAndGeometryKept
  intro s t d inv h
  have effect : DisksEffect s t := by
    rcases step_cases h with rfl | ⟨i, pending, hw, e⟩
    · exact .kept (.of_eq rfl rfl)
    · obtain ⟨-, -, -, ok, -⟩ := inv
      exact (exec_disksEffect (s := { s with pending := pending }) hw ok t e).after rfl rfl
  refine ⟨fun img medium => ?_, effect.geometry⟩
  obtain ⟨img', medium', access, length, header⟩ := effect.mediaKept d img medium
  exact ⟨img', medium', access, length, header⟩

end Sys2Proof.Machine

/-! # Faults, idle steps and RESET (60_exceptions.md, 70_reset_and_hazards.md)

The hardware takes no exception. The model's one fault is the drive register that names no slot (log 12), and the invariant
keeps its bit 2 clear (R51), so each operation that looks up the selected slot finds one. What a step does is said by one
equation per case of its test and its fetch. -/

namespace Sys2Proof.Safety
open Sys2Proof.Machine

theorem NotFault.next {t : State} : NotFault (.next t) := by
  rintro _ ⟨⟩

theorem NotFault.refused {r : Refusal} : NotFault (.refused r) := by
  rintro _ ⟨⟩

/-- An operation that leaves a next state does not fault. -/
theorem NotFault.of_eq_next {o : Host.Outcome State Fault Refusal} {t : State} (h : o = .next t) : NotFault o := by
  rw [h]; exact .next

/-- The drive register of a state of the invariant names a slot (R51). -/
theorem MachineInv.namesSlot {s : State} (inv : MachineInv s) : ∃ d, slotOfDrive s.hdc.drive = some d := by
  obtain ⟨-, -, ⟨-, -, bit2, -⟩, -⟩ := inv
  exact slotOfDrive_isSome _ bit2

end Sys2Proof.Safety

namespace Sys2Proof.Machine
open Sys2Proof.Safety

/-! ### No operation faults when the drive register names a slot (R340) -/

/-- SET_MODEL may be refused, and never faults (R130). -/
theorem execSetModel_notFault (m : Byte) (s : State) : NotFault (execSetModel m s) := by
  unfold execSetModel
  split
  · exact .next
  · split
    · exact .next
    · exact .refused

section selectedSlot
variable {s : State} {d : SlotId} (drive : slotOfDrive s.hdc.drive = some d)
include drive

theorem State.runLocating_notFault (st v : Byte) : NotFault (s.runLocating st v) :=
  .of_eq_next (State.runLocating_of_some st v drive)

theorem State.runCommand_notFault (v : Byte) : NotFault (s.runCommand v) := by
  obtain ⟨t, e, -⟩ := State.runCommand_starts v drive
  exact .of_eq_next e

theorem State.readData_notFault : NotFault s.readData := by
  by_cases active : s.fetching = true
  · exact .of_eq_next (State.readData_of_fetching active drive)
  · exact .of_eq_next (State.readData_of_not_fetching active)

theorem State.writeData_notFault (v : Byte) : NotFault (s.writeData v) := by
  by_cases active : s.storing = true
  · exact .of_eq_next (State.writeData_of_storing v active drive)
  · exact .of_eq_next (State.writeData_of_not_storing v active)

/-- Of the port reads only the data read looks up the selected slot (R293). -/
theorem State.portRead_notFault (p : Byte) : NotFault (s.portRead p) := by
  rcases s.portRead_cases p with ⟨-, e⟩ | ⟨-, e⟩ | ⟨-, -, x, e⟩
  · exact .of_eq_next e
  · rw [e]; exact State.readData_notFault drive
  · exact .of_eq_next e

/-- Of the port writes only the data write and the command look up the selected slot (R295, R280). -/
theorem State.portWrite_notFault (p v : Byte) : NotFault (s.portWrite p v) := by
  rcases s.portWrite_cases p v with ⟨-, e⟩ | ⟨-, e⟩ | ⟨-, -, t, e, -⟩
  · rw [e]; exact State.writeData_notFault drive v
  · rw [e]; exact State.runCommand_notFault drive v
  · exact .of_eq_next e

/-- No operation, well-formed or not, faults while the drive register names a slot. -/
theorem exec_notFault (i : Instr) : NotFault (exec i s) := by
  cases i with
  | reservedKind rest | reservedSb number zero data => exact .refused
  | setModel m => exact execSetModel_notFault m s
  | iord p => exact State.portRead_notFault drive p
  | iordExpansionA => exact State.portRead_notFault drive 0x43#8
  | iordExpansionCd => exact State.portRead_notFault drive 0x94#8
  | iowr p v => exact State.portWrite_notFault drive p v
  | iowrSelector v => exact State.portWrite_notFault drive 0x1F#8 v
  | iowrExpansionA v => exact State.portWrite_notFault drive 0x43#8 v
  | iowrBankreg v => exact State.portWrite_notFault drive 0x84#8 v
  | iowrExpansionCd v => exact State.portWrite_notFault drive 0x94#8 v
  | iowrRomctl v => exact State.portWrite_notFault drive 0x9C#8 v
  | iordData => exact State.readData_notFault drive
  | iowrData v => exact State.writeData_notFault drive v
  | iowrCommand v => exact State.runCommand_notFault drive v
  | read low | write low => exact State.runLocating_notFault drive stReadyDrq _
  | verify low | seek low => exact State.runLocating_notFault drive stReady _
  | _ => exact .next

end selectedSlot

/-! ### The cases of a step (R8, R355, R90) -/

theorem State.fetch_of_idle {s : State} (idle : s.pending = []) : s.fetch = none := by
  unfold State.fetch; rw [idle]

/-- A configuration that breaks R8 has no meaning (log 11). -/
theorem step_of_illegal {s : State} (illegal : legalConfiguration s.model s.straps = false) :
    step s = .refused .illegalConfiguration := by
  unfold step
  rw [if_neg (Bool.eq_false_iff.1 illegal)]

/-- With nothing issued nothing changes (R355; log 1). -/
theorem step_of_idle {s : State} (legal : legalConfiguration s.model s.straps = true) (idle : s.pending = []) :
    step s = .next s := by
  unfold step
  rw [if_pos legal, State.fetch_of_idle idle]

/-- With a request issued a step is refused as undecodable, or is an operation on the state with the request taken. -/
theorem step_of_pending {s : State} {r : Request} {rest : List Request}
    (legal : legalConfiguration s.model s.straps = true) (issued : s.pending = r :: rest) :
    (∃ e, step s = .refused (.undecodable e)) ∨ ∃ i, step s = exec i { s with pending := rest } := by
  unfold step
  rw [if_pos legal, State.fetch_of_pending issued]
  rcases h : decode r with e | i
  · exact .inl ⟨e, by simp only [h]⟩
  · exact .inr ⟨i, by simp only [h]⟩

/-- A step faults only where an operation would: the request taken is not what names the slot. -/
theorem step_notFault {s : State} {d : SlotId} (drive : slotOfDrive s.hdc.drive = some d) : NotFault (step s) := by
  cases legal : legalConfiguration s.model s.straps with
  | false => rw [step_of_illegal legal]; exact .refused
  | true =>
    rcases issued : s.pending with _ | ⟨r, rest⟩
    · exact .of_eq_next (step_of_idle legal issued)
    · rcases step_of_pending legal issued with ⟨e, h⟩ | ⟨i, h⟩ <;> rw [h]
      · exact .refused
      · exact exec_notFault (s := { s with pending := rest }) drive i

/-- Settles O56: under the invariant the drive register names a slot, and then nothing faults. -/
theorem noFaultUnderInvariant : Obligations.NoFaultUnderInvariant := by
  unfold Obligations.NoFaultUnderInvariant
  intro s inv
  obtain ⟨d, drive⟩ := inv.namesSlot
  exact ⟨step_notFault drive, exec_notFault drive⟩

/-- Settles O7: the two cases of a step that run no operation. -/
theorem stepWithoutOperation : Obligations.StepWithoutOperation := by
  unfold Obligations.StepWithoutOperation
  exact ⟨fun _ => step_of_idle, fun _ => step_of_illegal⟩

/-! ### RESET (R370) -/

theorem exec_reset (s : State) : exec .reset s = s.resetMemdec.resetHdc.done := rfl

/-- RESET re-initialises the registers of each block by that block's part (R49, R50), closes every slot, and moves nothing
else. -/
theorem State.resetMemdec_resetHdc (s : State) :
    s.resetMemdec.resetHdc =
      { s with
        bank := s.resetMemdec.bank
        hdc := s.resetHdc.hdc
        drv := ⟨.closed, .closed, .closed, .closed⟩ } := rfl

theorem State.resetMemdec_bank (s : State) :
    s.resetMemdec.bank =
      { mapSel := 0#2, romin := decide (s.model = .d), selectorReg := 0x00#8, bankOffset0 := 0#21, bankOffset1 := 0#21,
        bankBase := if s.model = .c ∨ s.model = .d then 0x10000#21 else 0#21, lastCmd := .c0, videoPage := .page0 } := rfl

/-- Settles O38: RESET is the two parts, whose registers and slots are those of `State.resetMemdec_bank`,
`State.resetHdc_hdc` and `Slot.closed`. -/
theorem resetResult : Obligations.ResetResult := by
  unfold Obligations.ResetResult
  intro s
  rw [exec_reset, State.resetMemdec_resetHdc, State.resetMemdec_bank, State.resetHdc_hdc]
  rfl

end Sys2Proof.Machine
